-- ==== Sys2Proof/Word.lean ====
section
/-! DEFINITION. The word types of TGC-CORE: bits, bytes and words as the spec numbers them (00_scope.md R10). -/

namespace Sys2Proof

/-- A 32-bit register, bus or command word (00_scope.md R8, REG_WIDTH = 32). -/
abbrev Word := BitVec 32

/-- An 8-bit byte (00_scope.md R11). -/
abbrev Byte := BitVec 8

/-- A 16-byte block, bytes in index order (00_scope.md R7, R11). -/
abbrev Block := Vector Byte 16

/-- A 32-byte key or IV (00_scope.md R7, KEY_BYTES and IV_BYTES). -/
abbrev Bytes32 := Vector Byte 32

/-- The round-key store's shape, 60 schedule words W[0..59] (10_state.md R29). -/
abbrev Schedule := Vector Word 60

end Sys2Proof
end

