-- ==== Sys2Proof/Config.lean ====
section
/-! DEFINITION. What an implementation of TGC-CORE fixes and the spec leaves open, and the shape of the factorization
parameters (00_scope.md R8). The default VALUES stand in Machine/Factor.lean. -/

namespace Sys2Proof.Config

/-- Which multiple of 0x100 the platform gives the register window. ENGINE_BASE is an OPEN parameter
(00_scope.md R8, 20_memory.md R60), so this constant has no body and no proof can see its value. -/
opaque enginePage : Nat

/-- ENGINE_BASE, "a multiple of 0x100" (00_scope.md R8). -/
def engineBase : Nat := 0x100 * enginePage

/-- The parameters of the factorization engine (00_scope.md R8). The model's functions take them as an argument;
the machine gives them TGC-CORE's defaults (log entry 13). -/
structure FactParams where
  /-- TRIAL_PRIMES (43_factorization.md R206) -/
  trialPrimes : List Nat
  /-- MR_BASES (43_factorization.md R203) -/
  mrBases : List Nat
  /-- RHO_X0 (43_factorization.md R208) -/
  rhoX0 : Nat
  /-- FACT_ATTEMPTS (43_factorization.md R209) -/
  attempts : Nat
  /-- RHO_BATCH (43_factorization.md R208) -/
  rhoBatch : Nat
  /-- RHO_R_LIMIT (43_factorization.md R208, R210) -/
  rhoRLimit : Nat
deriving DecidableEq, Repr

end Sys2Proof.Config
end

