-- ==== Sys2Proof/Machine/Aes.lean ====
section
/-! DEFINITION. The AES-256 datapath of the block cipher engine (40_aes_primitives.md R120 to R135): pure functions on
blocks and schedules. -/

namespace Sys2Proof.Machine

/-- Row `r`, column `c` of the AES state of block `s`: `s[r][c] = B[r + 4c]` (40_aes_primitives.md R120). -/
def cell (s : Block) (r c : Fin 4) : Byte := s[r.val + 4 * c.val]

/-- The block whose AES state has `f r c` at row `r`, column `c` (40_aes_primitives.md R120). -/
def ofCells (f : Fin 4 → Fin 4 → Byte) : Block :=
  Vector.ofFn fun i : Fin 16 => f (Fin.ofNat 4 i.val) (Fin.ofNat 4 (i.val / 4))

/-- Byte `r` of a schedule word, byte 0 most significant (40_aes_primitives.md R120). -/
def wordByte (w : Word) (r : Fin 4) : Byte := w.extractLsb' (24 - 8 * r.val) 8

/-- Multiplication by x in GF(2^8) with polynomial 0x11B (40_aes_primitives.md R121). -/
def xtime (a : Byte) : Byte := (a <<< 1) ^^^ (if a.getLsbD 7 then 0x1B#8 else 0#8)

/-- `k` applications of `xtime` (40_aes_primitives.md R121). -/
def xtimes : Nat → Byte → Byte
  | 0, a => a
  | k + 1, a => xtime (xtimes k a)

/-- The product `a • b` in GF(2^8): the xor of `xtime^i(a)` over the bits i set in `b` (40_aes_primitives.md R121). -/
def gmul (a b : Byte) : Byte :=
  (List.range 8).foldl (fun acc i => acc ^^^ (if b.getLsbD i then xtimes i a else 0#8)) 0#8

/-- The S-box, one row of sixteen bytes per high digit, byte `.0` leftmost (40_aes_primitives.md R122). -/
def sboxRows : Vector (BitVec 128) 16 := #v[
  0x637c777bf26b6fc53001672bfed7ab76#128, 0xca82c97dfa5947f0add4a2af9ca472c0#128,
  0xb7fd9326363ff7cc34a5e5f171d83115#128, 0x04c723c31896059a071280e2eb27b275#128,
  0x09832c1a1b6e5aa0523bd6b329e32f84#128, 0x53d100ed20fcb15b6acbbe394a4c58cf#128,
  0xd0efaafb434d338545f9027f503c9fa8#128, 0x51a3408f929d38f5bcb6da2110fff3d2#128,
  0xcd0c13ec5f974417c4a77e3d645d1973#128, 0x60814fdc222a908846eeb814de5e0bdb#128,
  0xe0323a0a4906245cc2d3ac629195e479#128, 0xe7c8376d8dd54ea96c56f4ea657aae08#128,
  0xba78252e1ca6b4c6e8dd741f4bbd8b8a#128, 0x703eb5664803f60e613557b986c11d9e#128,
  0xe1f8981169d98e949b1e87e9ce5528df#128, 0x8ca1890dbfe6426841992d0fb054bb16#128]

/-- The inverse S-box, laid out as the S-box (40_aes_primitives.md R123). -/
def invSboxRows : Vector (BitVec 128) 16 := #v[
  0x52096ad53036a538bf40a39e81f3d7fb#128, 0x7ce339829b2fff87348e4344c4dee9cb#128,
  0x547b9432a6c2233dee4c950b42fac34e#128, 0x082ea16628d924b2765ba2496d8bd125#128,
  0x72f8f66486689816d4a45ccc5d65b692#128, 0x6c704850fdedb9da5e154657a78d9d84#128,
  0x90d8ab008cbcd30af7e45805b8b34506#128, 0xd02c1e8fca3f0f02c1afbd0301138a6b#128,
  0x3a9111414f67dcea97f2cfcef0b4e673#128, 0x96ac7422e7ad3585e2f937e81c75df6e#128,
  0x47f11a711d29c5896fb7620eaa18be1b#128, 0xfc563e4bc6d279209adbc0fe78cd5af4#128,
  0x1fdda8338807c731b11210592780ec5f#128, 0x60517fa919b54a0d2de57a9f93c99cef#128,
  0xa0e03b4dae2af5b0c8ebbb3c83539961#128, 0x172b047eba77d626e169146355210c7d#128]

/-- Entry `a = 16·row + column` of a table of sixteen rows (40_aes_primitives.md R122, R123). -/
def tableLookup (rows : Vector (BitVec 128) 16) (a : Byte) : Byte :=
  (rows.get (Fin.ofNat 16 (a.toNat / 16))).extractLsb' (8 * (15 - a.toNat % 16)) 8

/-- `SBOX[a]` (40_aes_primitives.md R122). -/
def sbox (a : Byte) : Byte := tableLookup sboxRows a

/-- `INV_SBOX[a]` (40_aes_primitives.md R123). -/
def invSbox (a : Byte) : Byte := tableLookup invSboxRows a

/-- SubBytes (40_aes_primitives.md R124). -/
def subBytes (s : Block) : Block := s.map sbox

/-- InvSubBytes (40_aes_primitives.md R124). -/
def invSubBytes (s : Block) : Block := s.map invSbox

/-- ShiftRows: `s'[r][c] = s[r][(c + r) mod 4]` (40_aes_primitives.md R125). -/
def shiftRows (s : Block) : Block := ofCells fun r c => cell s r (c + r)

/-- InvShiftRows: `s'[r][c] = s[r][(c - r) mod 4]` (40_aes_primitives.md R125). -/
def invShiftRows (s : Block) : Block := ofCells fun r c => cell s r (c - r)

/-- A circulant matrix with first row `k0 k1 k2 k3` applied to every column over GF(2^8): row `r` of the result is
the xor of `k_j • s[(r + j) mod 4][c]` (40_aes_primitives.md R126). -/
def mixWith (k0 k1 k2 k3 : Byte) (s : Block) : Block :=
  ofCells fun r c =>
    gmul k0 (cell s r c) ^^^ gmul k1 (cell s (r + 1) c) ^^^ gmul k2 (cell s (r + 2) c) ^^^ gmul k3 (cell s (r + 3) c)

/-- MixColumns (40_aes_primitives.md R126). -/
def mixColumns (s : Block) : Block := mixWith 0x02#8 0x03#8 0x01#8 0x01#8 s

/-- InvMixColumns (40_aes_primitives.md R126). -/
def invMixColumns (s : Block) : Block := mixWith 0x0E#8 0x0B#8 0x0D#8 0x09#8 s

/-- Word W[i] of a schedule; every rule uses i in 0..59 (10_state.md R29). -/
def schedWord (w : Schedule) (i : Nat) : Word := w.get (Fin.ofNat 60 i)

/-- AddRoundKey (40_aes_primitives.md R127). -/
def addRoundKey (w : Schedule) (round : Nat) (s : Block) : Block :=
  ofCells fun r c => cell s r c ^^^ wordByte (schedWord w (4 * round + c.val)) r

/-- RotWord (40_aes_primitives.md R129). -/
def rotWord (w : Word) : Word := w.rotateLeft 8

/-- SubWord (40_aes_primitives.md R129). -/
def subWord (w : Word) : Word :=
  sbox (wordByte w 0) ++ sbox (wordByte w 1) ++ sbox (wordByte w 2) ++ sbox (wordByte w 3)

/-- `Rcon[j] = xtime^(j-1)(0x01)`, used for j = 1..7 (40_aes_primitives.md R128). -/
def rcon (j : Nat) : Byte := xtimes (j - 1) 0x01#8

/-- The value xored into W[i-8] to make W[i], from `temp = W[i-1]` (40_aes_primitives.md R130). -/
def scheduleTemp (i : Nat) (temp : Word) : Word :=
  if i % 8 = 0 then subWord (rotWord temp) ^^^ (rcon (i / 8) ++ (0 : BitVec 24))
  else if i % 8 = 4 then subWord temp
  else temp

/-- `W[i]`, i = 0..7, the key's bytes with the first most significant (40_aes_primitives.md R130). -/
def keyWord (k : Bytes32) (i : Fin 8) : Word :=
  k[4 * i.val] ++ k[4 * i.val + 1] ++ k[4 * i.val + 2] ++ k[4 * i.val + 3]

/-- One turn of the key expansion's loop: set W[i] from W[i-8] and W[i-1] (40_aes_primitives.md R130). -/
def expandStep (w : Schedule) (i : Nat) : Schedule :=
  w.set! i (schedWord w (i - 8) ^^^ scheduleTemp i (schedWord w (i - 1)))

/-- W[0..7] from the key, the rest not yet computed (40_aes_primitives.md R130). -/
def initialSchedule (k : Bytes32) : Schedule :=
  Vector.ofFn fun i : Fin 60 => if h : i.val < 8 then keyWord k ⟨i.val, h⟩ else 0#32

/-- KeyExpansion: W[0..7] from the key, then `for i in 8..59` (40_aes_primitives.md R130). -/
@[irreducible] def keyExpansion (k : Bytes32) : Schedule := (List.range' 8 52).foldl expandStep (initialSchedule k)

/-- One full round of the cipher (40_aes_primitives.md R131). -/
def cipherRound (w : Schedule) (s : Block) (round : Nat) : Block :=
  addRoundKey w round (mixColumns (shiftRows (subBytes s)))

/-- Cipher: whitening, rounds 1 to 13, the final round (40_aes_primitives.md R131). -/
@[irreducible] def cipher (w : Schedule) (b : Block) : Block :=
  addRoundKey w 14 (shiftRows (subBytes ((List.range' 1 13).foldl (cipherRound w) (addRoundKey w 0 b))))

/-- One full round of the inverse cipher (40_aes_primitives.md R132). -/
def invCipherRound (w : Schedule) (s : Block) (round : Nat) : Block :=
  invMixColumns (addRoundKey w round (invSubBytes (invShiftRows s)))

/-- InvCipher: round keys in reverse order (40_aes_primitives.md R132). -/
@[irreducible] def invCipher (w : Schedule) (b : Block) : Block :=
  addRoundKey w 0
    (invSubBytes (invShiftRows ((List.range' 1 13).reverse.foldl (invCipherRound w) (addRoundKey w 14 b))))

/-- The 16-lane byte xor of two blocks (40_aes_primitives.md R135, 00_scope.md R11). -/
def blockXor (a b : Block) : Block := Vector.zipWith (· ^^^ ·) a b

end Sys2Proof.Machine
end

