-- ==== Sys2Proof/Syntax.lean ====
section
/-! DEFINITION. The command words of TGC-CORE: one constructor per row of opcode_table.json (30_encoding.md R91). -/

namespace Sys2Proof

/-- A decoded command word. The ten commands carry nothing: their mask is all 32 bits (30_encoding.md R91). An illegal
word (30_encoding.md R93, 44_control_commands.md R242) carries the whole word written to CMD; which words belong to
which of the 30 illegal rows is `Instr.wellFormed`. -/
inductive Instr where
  /-- NOP, complete with no effect (44_control_commands.md R240). -/
  | nop
  /-- KEY_EXPAND, derive the schedule of the latched key (41_block_commands.md R160). -/
  | keyExpand
  /-- ENC_BLOCK, encrypt one block (41_block_commands.md R161). -/
  | encBlock
  /-- DEC_BLOCK, decrypt one block (41_block_commands.md R162). -/
  | decBlock
  /-- IGE_ENC_START, start an encryption pass (42_ige_commands.md R183). -/
  | igeEncStart
  /-- IGE_DEC_START, start a decryption pass (42_ige_commands.md R184). -/
  | igeDecStart
  /-- IGE_STEP, the next block of the active pass (42_ige_commands.md R185). -/
  | igeStep
  /-- IGE_ABORT, end the active pass early (42_ige_commands.md R187). -/
  | igeAbort
  /-- FACTORIZE, factor the latched 64-bit n (43_factorization.md R215). -/
  | factorize
  /-- ZEROIZE, erase key material, data and results (44_control_commands.md R241). -/
  | zeroize
  /-- RSVD = 0 and OPCODE 0x0A to 0x0B: illegal, UNKNOWN_OPCODE (30_encoding.md R93). -/
  | illegalOpcode0A0B (word : Word)
  /-- RSVD = 0 and OPCODE 0x0C to 0x0F: illegal, UNKNOWN_OPCODE (30_encoding.md R93). -/
  | illegalOpcode0C0F (word : Word)
  /-- RSVD = 0 and OPCODE 0x10 to 0x1F: illegal, UNKNOWN_OPCODE (30_encoding.md R93). -/
  | illegalOpcode101F (word : Word)
  /-- RSVD = 0 and OPCODE 0x20 to 0x3F: illegal, UNKNOWN_OPCODE (30_encoding.md R93). -/
  | illegalOpcode203F (word : Word)
  /-- RSVD = 0 and OPCODE 0x40 to 0x7F: illegal, UNKNOWN_OPCODE (30_encoding.md R93). -/
  | illegalOpcode407F (word : Word)
  /-- RSVD = 0 and OPCODE 0x80 to 0xFF: illegal, UNKNOWN_OPCODE (30_encoding.md R93). -/
  | illegalOpcode80FF (word : Word)
  /-- Highest set bit of the word is bit 31, so RSVD ≠ 0: illegal, RESERVED_BITS (30_encoding.md R93). -/
  | illegalRsvdBit31 (word : Word)
  /-- Highest set bit of the word is bit 30, so RSVD ≠ 0: illegal, RESERVED_BITS (30_encoding.md R93). -/
  | illegalRsvdBit30 (word : Word)
  /-- Highest set bit of the word is bit 29, so RSVD ≠ 0: illegal, RESERVED_BITS (30_encoding.md R93). -/
  | illegalRsvdBit29 (word : Word)
  /-- Highest set bit of the word is bit 28, so RSVD ≠ 0: illegal, RESERVED_BITS (30_encoding.md R93). -/
  | illegalRsvdBit28 (word : Word)
  /-- Highest set bit of the word is bit 27, so RSVD ≠ 0: illegal, RESERVED_BITS (30_encoding.md R93). -/
  | illegalRsvdBit27 (word : Word)
  /-- Highest set bit of the word is bit 26, so RSVD ≠ 0: illegal, RESERVED_BITS (30_encoding.md R93). -/
  | illegalRsvdBit26 (word : Word)
  /-- Highest set bit of the word is bit 25, so RSVD ≠ 0: illegal, RESERVED_BITS (30_encoding.md R93). -/
  | illegalRsvdBit25 (word : Word)
  /-- Highest set bit of the word is bit 24, so RSVD ≠ 0: illegal, RESERVED_BITS (30_encoding.md R93). -/
  | illegalRsvdBit24 (word : Word)
  /-- Highest set bit of the word is bit 23, so RSVD ≠ 0: illegal, RESERVED_BITS (30_encoding.md R93). -/
  | illegalRsvdBit23 (word : Word)
  /-- Highest set bit of the word is bit 22, so RSVD ≠ 0: illegal, RESERVED_BITS (30_encoding.md R93). -/
  | illegalRsvdBit22 (word : Word)
  /-- Highest set bit of the word is bit 21, so RSVD ≠ 0: illegal, RESERVED_BITS (30_encoding.md R93). -/
  | illegalRsvdBit21 (word : Word)
  /-- Highest set bit of the word is bit 20, so RSVD ≠ 0: illegal, RESERVED_BITS (30_encoding.md R93). -/
  | illegalRsvdBit20 (word : Word)
  /-- Highest set bit of the word is bit 19, so RSVD ≠ 0: illegal, RESERVED_BITS (30_encoding.md R93). -/
  | illegalRsvdBit19 (word : Word)
  /-- Highest set bit of the word is bit 18, so RSVD ≠ 0: illegal, RESERVED_BITS (30_encoding.md R93). -/
  | illegalRsvdBit18 (word : Word)
  /-- Highest set bit of the word is bit 17, so RSVD ≠ 0: illegal, RESERVED_BITS (30_encoding.md R93). -/
  | illegalRsvdBit17 (word : Word)
  /-- Highest set bit of the word is bit 16, so RSVD ≠ 0: illegal, RESERVED_BITS (30_encoding.md R93). -/
  | illegalRsvdBit16 (word : Word)
  /-- Highest set bit of the word is bit 15, so RSVD ≠ 0: illegal, RESERVED_BITS (30_encoding.md R93). -/
  | illegalRsvdBit15 (word : Word)
  /-- Highest set bit of the word is bit 14, so RSVD ≠ 0: illegal, RESERVED_BITS (30_encoding.md R93). -/
  | illegalRsvdBit14 (word : Word)
  /-- Highest set bit of the word is bit 13, so RSVD ≠ 0: illegal, RESERVED_BITS (30_encoding.md R93). -/
  | illegalRsvdBit13 (word : Word)
  /-- Highest set bit of the word is bit 12, so RSVD ≠ 0: illegal, RESERVED_BITS (30_encoding.md R93). -/
  | illegalRsvdBit12 (word : Word)
  /-- Highest set bit of the word is bit 11, so RSVD ≠ 0: illegal, RESERVED_BITS (30_encoding.md R93). -/
  | illegalRsvdBit11 (word : Word)
  /-- Highest set bit of the word is bit 10, so RSVD ≠ 0: illegal, RESERVED_BITS (30_encoding.md R93). -/
  | illegalRsvdBit10 (word : Word)
  /-- Highest set bit of the word is bit 9, so RSVD ≠ 0: illegal, RESERVED_BITS (30_encoding.md R93). -/
  | illegalRsvdBit9 (word : Word)
  /-- Highest set bit of the word is bit 8, so RSVD ≠ 0: illegal, RESERVED_BITS (30_encoding.md R93). -/
  | illegalRsvdBit8 (word : Word)
deriving DecidableEq, Repr

end Sys2Proof
end

