-- ==== Sys2Proof/WellFormed.lean ====
section
/-! DEFINITION. Which terms of `Instr` stand for a command word: an illegal row holds only the words its mask and
match of opcode_table.json select (30_encoding.md R91). -/

namespace Sys2Proof

/-- Does `word` match an opcode-table row: `word & mask = pattern` (30_encoding.md R91)? -/
def selects (mask pattern word : Word) : Bool := word &&& mask == pattern

/-- An instruction is well formed when its word, if it carries one, matches its own row of opcode_table.json. -/
def Instr.wellFormed : Instr → Bool
  | .nop => true
  | .keyExpand => true
  | .encBlock => true
  | .decBlock => true
  | .igeEncStart => true
  | .igeDecStart => true
  | .igeStep => true
  | .igeAbort => true
  | .factorize => true
  | .zeroize => true
  | .illegalOpcode0A0B w => selects 0xFFFFFFFE#32 0x0000000A#32 w
  | .illegalOpcode0C0F w => selects 0xFFFFFFFC#32 0x0000000C#32 w
  | .illegalOpcode101F w => selects 0xFFFFFFF0#32 0x00000010#32 w
  | .illegalOpcode203F w => selects 0xFFFFFFE0#32 0x00000020#32 w
  | .illegalOpcode407F w => selects 0xFFFFFFC0#32 0x00000040#32 w
  | .illegalOpcode80FF w => selects 0xFFFFFF80#32 0x00000080#32 w
  | .illegalRsvdBit31 w => selects 0x80000000#32 0x80000000#32 w
  | .illegalRsvdBit30 w => selects 0xC0000000#32 0x40000000#32 w
  | .illegalRsvdBit29 w => selects 0xE0000000#32 0x20000000#32 w
  | .illegalRsvdBit28 w => selects 0xF0000000#32 0x10000000#32 w
  | .illegalRsvdBit27 w => selects 0xF8000000#32 0x08000000#32 w
  | .illegalRsvdBit26 w => selects 0xFC000000#32 0x04000000#32 w
  | .illegalRsvdBit25 w => selects 0xFE000000#32 0x02000000#32 w
  | .illegalRsvdBit24 w => selects 0xFF000000#32 0x01000000#32 w
  | .illegalRsvdBit23 w => selects 0xFF800000#32 0x00800000#32 w
  | .illegalRsvdBit22 w => selects 0xFFC00000#32 0x00400000#32 w
  | .illegalRsvdBit21 w => selects 0xFFE00000#32 0x00200000#32 w
  | .illegalRsvdBit20 w => selects 0xFFF00000#32 0x00100000#32 w
  | .illegalRsvdBit19 w => selects 0xFFF80000#32 0x00080000#32 w
  | .illegalRsvdBit18 w => selects 0xFFFC0000#32 0x00040000#32 w
  | .illegalRsvdBit17 w => selects 0xFFFE0000#32 0x00020000#32 w
  | .illegalRsvdBit16 w => selects 0xFFFF0000#32 0x00010000#32 w
  | .illegalRsvdBit15 w => selects 0xFFFF8000#32 0x00008000#32 w
  | .illegalRsvdBit14 w => selects 0xFFFFC000#32 0x00004000#32 w
  | .illegalRsvdBit13 w => selects 0xFFFFE000#32 0x00002000#32 w
  | .illegalRsvdBit12 w => selects 0xFFFFF000#32 0x00001000#32 w
  | .illegalRsvdBit11 w => selects 0xFFFFF800#32 0x00000800#32 w
  | .illegalRsvdBit10 w => selects 0xFFFFFC00#32 0x00000400#32 w
  | .illegalRsvdBit9 w => selects 0xFFFFFE00#32 0x00000200#32 w
  | .illegalRsvdBit8 w => selects 0xFFFFFF00#32 0x00000100#32 w

end Sys2Proof
end

