-- ==== Sys2Proof/Decode.lean ====
section
/-! DEFINITION. Decoding and encoding of command words (30_encoding.md R90 to R95). -/

namespace Sys2Proof

/-- OPCODE, bits 7:0 of a command word (30_encoding.md R90). -/
def opcodeField (w : Word) : Byte := w.extractLsb' 0 8

/-- RSVD, bits 31:8 of a command word (30_encoding.md R90). -/
def rsvdField (w : Word) : BitVec 24 := w.extractLsb' 8 24

/-- A word with RSVD ≠ 0: the row is named after the highest set bit, 31 down to 8 (30_encoding.md R91, R93). -/
def decodeReserved (w : Word) : Instr :=
  if w.getLsbD 31 then .illegalRsvdBit31 w
  else if w.getLsbD 30 then .illegalRsvdBit30 w
  else if w.getLsbD 29 then .illegalRsvdBit29 w
  else if w.getLsbD 28 then .illegalRsvdBit28 w
  else if w.getLsbD 27 then .illegalRsvdBit27 w
  else if w.getLsbD 26 then .illegalRsvdBit26 w
  else if w.getLsbD 25 then .illegalRsvdBit25 w
  else if w.getLsbD 24 then .illegalRsvdBit24 w
  else if w.getLsbD 23 then .illegalRsvdBit23 w
  else if w.getLsbD 22 then .illegalRsvdBit22 w
  else if w.getLsbD 21 then .illegalRsvdBit21 w
  else if w.getLsbD 20 then .illegalRsvdBit20 w
  else if w.getLsbD 19 then .illegalRsvdBit19 w
  else if w.getLsbD 18 then .illegalRsvdBit18 w
  else if w.getLsbD 17 then .illegalRsvdBit17 w
  else if w.getLsbD 16 then .illegalRsvdBit16 w
  else if w.getLsbD 15 then .illegalRsvdBit15 w
  else if w.getLsbD 14 then .illegalRsvdBit14 w
  else if w.getLsbD 13 then .illegalRsvdBit13 w
  else if w.getLsbD 12 then .illegalRsvdBit12 w
  else if w.getLsbD 11 then .illegalRsvdBit11 w
  else if w.getLsbD 10 then .illegalRsvdBit10 w
  else if w.getLsbD 9 then .illegalRsvdBit9 w
  else .illegalRsvdBit8 w

/-- A word with RSVD = 0: the ten commands, then the six ranges of unknown opcodes (30_encoding.md R91, R93). -/
def decodeOpcode (w : Word) : Instr :=
  if opcodeField w = 0x00#8 then .nop
  else if opcodeField w = 0x01#8 then .keyExpand
  else if opcodeField w = 0x02#8 then .encBlock
  else if opcodeField w = 0x03#8 then .decBlock
  else if opcodeField w = 0x04#8 then .igeEncStart
  else if opcodeField w = 0x05#8 then .igeDecStart
  else if opcodeField w = 0x06#8 then .igeStep
  else if opcodeField w = 0x07#8 then .igeAbort
  else if opcodeField w = 0x08#8 then .factorize
  else if opcodeField w = 0x09#8 then .zeroize
  else if opcodeField w < 0x0c#8 then .illegalOpcode0A0B w
  else if opcodeField w < 0x10#8 then .illegalOpcode0C0F w
  else if opcodeField w < 0x20#8 then .illegalOpcode101F w
  else if opcodeField w < 0x40#8 then .illegalOpcode203F w
  else if opcodeField w < 0x80#8 then .illegalOpcode407F w
  else .illegalOpcode80FF w

/-- The decoder, total on every 32-bit word (30_encoding.md R93, R95): reserved bits first, then the opcode. No word is
refused: an illegal one decodes to the illegal row that names it. -/
def decode (w : Word) : Instr :=
  if rsvdField w ≠ 0 then decodeReserved w else decodeOpcode w

/-- The command word of an instruction (30_encoding.md R90, R91). -/
def encode : Instr → Word
  | .nop => 0x00000000#32
  | .keyExpand => 0x00000001#32
  | .encBlock => 0x00000002#32
  | .decBlock => 0x00000003#32
  | .igeEncStart => 0x00000004#32
  | .igeDecStart => 0x00000005#32
  | .igeStep => 0x00000006#32
  | .igeAbort => 0x00000007#32
  | .factorize => 0x00000008#32
  | .zeroize => 0x00000009#32
  | .illegalOpcode0A0B w => w
  | .illegalOpcode0C0F w => w
  | .illegalOpcode101F w => w
  | .illegalOpcode203F w => w
  | .illegalOpcode407F w => w
  | .illegalOpcode80FF w => w
  | .illegalRsvdBit31 w => w
  | .illegalRsvdBit30 w => w
  | .illegalRsvdBit29 w => w
  | .illegalRsvdBit28 w => w
  | .illegalRsvdBit27 w => w
  | .illegalRsvdBit26 w => w
  | .illegalRsvdBit25 w => w
  | .illegalRsvdBit24 w => w
  | .illegalRsvdBit23 w => w
  | .illegalRsvdBit22 w => w
  | .illegalRsvdBit21 w => w
  | .illegalRsvdBit20 w => w
  | .illegalRsvdBit19 w => w
  | .illegalRsvdBit18 w => w
  | .illegalRsvdBit17 w => w
  | .illegalRsvdBit16 w => w
  | .illegalRsvdBit15 w => w
  | .illegalRsvdBit14 w => w
  | .illegalRsvdBit13 w => w
  | .illegalRsvdBit12 w => w
  | .illegalRsvdBit11 w => w
  | .illegalRsvdBit10 w => w
  | .illegalRsvdBit9 w => w
  | .illegalRsvdBit8 w => w

/-- A row of opcode_table.json: the command words `w` with `w & mask = pattern`. -/
structure OpcodeRow where
  pattern : Word
  mask : Word
deriving DecidableEq, Repr

/-- Does the row select the word (30_encoding.md R91)? -/
def OpcodeRow.matchesWord (r : OpcodeRow) (w : Word) : Bool := selects r.mask r.pattern w

/-- The ten command rows of opcode_table.json. -/
def commandRows : List OpcodeRow :=
  [⟨0x00000000#32, 0xFFFFFFFF#32⟩, ⟨0x00000001#32, 0xFFFFFFFF#32⟩, ⟨0x00000002#32, 0xFFFFFFFF#32⟩, ⟨0x00000003#32, 0xFFFFFFFF#32⟩,
   ⟨0x00000004#32, 0xFFFFFFFF#32⟩, ⟨0x00000005#32, 0xFFFFFFFF#32⟩, ⟨0x00000006#32, 0xFFFFFFFF#32⟩, ⟨0x00000007#32, 0xFFFFFFFF#32⟩,
   ⟨0x00000008#32, 0xFFFFFFFF#32⟩, ⟨0x00000009#32, 0xFFFFFFFF#32⟩]

/-- The six rows of unknown opcodes (RSVD = 0). -/
def unknownOpcodeRows : List OpcodeRow :=
  [⟨0x0000000A#32, 0xFFFFFFFE#32⟩, ⟨0x0000000C#32, 0xFFFFFFFC#32⟩, ⟨0x00000010#32, 0xFFFFFFF0#32⟩, ⟨0x00000020#32, 0xFFFFFFE0#32⟩,
   ⟨0x00000040#32, 0xFFFFFFC0#32⟩, ⟨0x00000080#32, 0xFFFFFF80#32⟩]

/-- The 24 rows of reserved bits, one per highest set bit 31 down to 8. -/
def reservedBitsRows : List OpcodeRow :=
  [⟨0x80000000#32, 0x80000000#32⟩, ⟨0x40000000#32, 0xC0000000#32⟩, ⟨0x20000000#32, 0xE0000000#32⟩, ⟨0x10000000#32, 0xF0000000#32⟩,
   ⟨0x08000000#32, 0xF8000000#32⟩, ⟨0x04000000#32, 0xFC000000#32⟩, ⟨0x02000000#32, 0xFE000000#32⟩, ⟨0x01000000#32, 0xFF000000#32⟩,
   ⟨0x00800000#32, 0xFF800000#32⟩, ⟨0x00400000#32, 0xFFC00000#32⟩, ⟨0x00200000#32, 0xFFE00000#32⟩, ⟨0x00100000#32, 0xFFF00000#32⟩,
   ⟨0x00080000#32, 0xFFF80000#32⟩, ⟨0x00040000#32, 0xFFFC0000#32⟩, ⟨0x00020000#32, 0xFFFE0000#32⟩, ⟨0x00010000#32, 0xFFFF0000#32⟩,
   ⟨0x00008000#32, 0xFFFF8000#32⟩, ⟨0x00004000#32, 0xFFFFC000#32⟩, ⟨0x00002000#32, 0xFFFFE000#32⟩, ⟨0x00001000#32, 0xFFFFF000#32⟩,
   ⟨0x00000800#32, 0xFFFFF800#32⟩, ⟨0x00000400#32, 0xFFFFFC00#32⟩, ⟨0x00000200#32, 0xFFFFFE00#32⟩, ⟨0x00000100#32, 0xFFFFFF00#32⟩]

/-- All 40 rows of opcode_table.json, in its order. -/
def opcodeTable : List OpcodeRow := commandRows ++ unknownOpcodeRows ++ reservedBitsRows

/-- The host's question: which instruction does the decoder read from a table row's `nbits` bits `w`? Every row has 32
bits; any bit above `nbits` is 0. A command word is one 32-bit write (30_encoding.md R90), so nothing longer exists. -/
def decodeTableWord (nbits w : Nat) : Option Instr :=
  if nbits ≤ 32 then some (decode (BitVec.ofNat 32 (w % 2 ^ nbits))) else none

end Sys2Proof
end

