-- ==== Sys2Proof/Machine/State.lean ====
section
/-! DEFINITION. The state of one TGC-CORE instance (10_state.md R20), with the two agents outside the engine as plain
data, its stops, and the state after reset (10_state.md R35). -/

namespace Sys2Proof.Machine

/-- The copy of the operand registers taken when a command is accepted (30_encoding.md R98). -/
structure Snapshot where
  /-- S.key, bytes 0..31 of KEY0..KEY7 -/
  key : Bytes32
  /-- S.key_len -/
  keyLen : Word
  /-- S.iv, bytes 0..31 of IV0..IV7 -/
  iv : Bytes32
  /-- S.iv_len -/
  ivLen : Word
  /-- S.msg_len -/
  msgLen : Word
  /-- S.din, bytes 0..15 of DIN0..DIN3 -/
  din : Block
  /-- S.n = N_HI:N_LO -/
  n : BitVec 64
deriving DecidableEq, Repr

/-- INFLIGHT when it is present: the decoded command and its snapshot (10_state.md R31, 30_encoding.md R96).
DEDUCED (log entry 4): 10_state.md R20 writes "opcode : 8 bits"; the model holds `Decode(v)` as R96 does. -/
structure InFlight where
  cmd : Instr
  snap : Snapshot
deriving DecidableEq, Repr

/-- Whose step comes next (00_scope.md R6, 20_memory.md R72, 70_reset_and_hazards.md R280). -/
inductive Turn where
  /-- the host's next transaction -/
  | host
  /-- the sequencer: the completion of the in-flight command, if there is one -/
  | sequencer
  /-- the power-on reset input is asserted -/
  | powerOnReset
deriving DecidableEq, Repr

/-- One operation of the host's program (20_memory.md R62, 30_encoding.md R101, R102). Offsets are from ENGINE_BASE. -/
inductive HostOp where
  /-- `MemRead(ENGINE_BASE + off, size)`, size in bytes -/
  | read (off size : Nat)
  /-- `MemWrite(ENGINE_BASE + off, size, v)`, size in bytes -/
  | write (off size : Nat) (v : Word)
  /-- the pseudo-instruction WAIT: read STATUS, again and again, until its bit 0 is 0 -/
  | wait
deriving DecidableEq, Repr

/-- What the host's bus answered to the last transaction (20_memory.md R62, 60_exceptions.md R255). -/
inductive BusResponse where
  /-- no transaction yet -/
  | none
  /-- a read returned this value -/
  | data (v : Word)
  /-- a write was performed (a dropped CMD write included, 60_exceptions.md R255) -/
  | written
  /-- BusError(ENGINE_BASE + off), no engine state changed (20_memory.md R62 to R65) -/
  | busError (off : Nat)
deriving DecidableEq, Repr

/-- The machine. The fields down to `inflight` are 10_state.md R20's EngineState, name for name; the last three are
the model's own and hold the agents outside the engine (log entries 1, 2, 6). -/
structure State where
  /-- KEY[0..7] (R21) -/
  key : Vector Word 8
  /-- KEY_LEN (R21) -/
  keyLen : Word
  /-- IV[0..7] (R21) -/
  iv : Vector Word 8
  /-- IV_LEN (R21) -/
  ivLen : Word
  /-- MSG_LEN (R21) -/
  msgLen : Word
  /-- DIN[0..3] (R21) -/
  din : Vector Word 4
  /-- N_LO (R21) -/
  nLo : Word
  /-- N_HI (R21) -/
  nHi : Word
  /-- DOUT[0..3] (R22) -/
  dout : Vector Word 4
  /-- FACT_P (R22) -/
  factP : Word
  /-- FACT_Q (R22) -/
  factQ : Word
  /-- FACT_STEPS (R22) -/
  factSteps : Word
  /-- FACT_C (R22) -/
  factC : Word
  /-- CHC[0..3], C_{i-1} (R23) -/
  chc : Vector Word 4
  /-- CHP[0..3], P_{i-1} (R23) -/
  chp : Vector Word 4
  /-- BLK_REMAIN (R23) -/
  blkRemain : Word
  /-- BLK_DONE (R23) -/
  blkDone : Word
  /-- PASS_ACTIVE, STATUS[4] (R23, R25) -/
  passActive : Bool
  /-- PASS_DIR, STATUS[5]: true = decryption pass (R23, R25) -/
  passDir : Bool
  /-- W[0..59] (R29) -/
  w : Schedule
  /-- KEY_VALID, STATUS[3] (R30) -/
  keyValid : Bool
  /-- IRQ_EN, CTRL[0] (R26) -/
  irqEn : Bool
  /-- DONE_P, IRQ_STATUS[0] (R27) -/
  doneP : Bool
  /-- ERR_P, IRQ_STATUS[1] (R27) -/
  errP : Bool
  /-- OVR_P, IRQ_STATUS[2] (R27) -/
  ovrP : Bool
  /-- BUSY, STATUS[0] (R25) -/
  busy : Bool
  /-- DONE, STATUS[1] (R25) -/
  done : Bool
  /-- ERR, STATUS[2] (R25) -/
  err : Bool
  /-- ERRCODE, STATUS[11:8] (R25) -/
  errCode : BitVec 4
  /-- SUBCAUSE, STATUS[15:12] (R25) -/
  subCause : BitVec 4
  /-- LAST_OP, STATUS[23:16] (R25) -/
  lastOp : Byte
  /-- INFLIGHT (R31) -/
  inflight : Option InFlight
  /-- the host's operations still to come -/
  program : List HostOp
  /-- the turns already decided for the coming steps -/
  schedule : List Turn
  /-- the bus's answer to the host's last transaction -/
  resp : BusResponse
deriving DecidableEq, Repr

/-- The error conditions a command can raise, one per code and sub-cause (60_exceptions.md R251, R252). No other code
is ever produced. -/
inductive CmdError where
  | invalidKeyLength
  | invalidIvLength
  | notMultipleOf16
  | zeroLength
  | tooSmall
  | even
  | prime
  | notSemiprime
  | square
  | factorTooLarge
  | factorizationExhausted
  | unknownOpcode
  | reservedBits
  | keyNotValid
  | noActivePass
  | passInProgress
deriving DecidableEq, Repr

/-- How `Execute(cmd, S)` ends (30_encoding.md R99): normally, or stopped at `raise CmdError`, with the state as the
command's own writes left it. -/
inductive ExecResult where
  | completes (s : State)
  | raises (e : CmdError) (s : State)
deriving DecidableEq, Repr

/-- What stops the machine. No condition the spec reports stops it: error completions and bus errors are next states. -/
inductive Fault where
  /-- Raised by a command's meaning, or by the sequencer's turn, where BUSY = 1 and INFLIGHT do not both hold: the
  completion is "enabled iff BUSY = 1" (30_encoding.md R99), so there is no step to take. No reachable state raises it
  (10_state.md R31). Safe (log entry 8). -/
  | completionNotEnabled
deriving DecidableEq, Repr

/-- Why an instruction is refused. -/
inductive Refusal where
  /-- Raised by an arm of `exec` whose instruction has no meaning yet; no arm uses it. Safe. -/
  | notModelled (mnemonic : String)
deriving DecidableEq, Repr

/-- The state right after reset: every field of EngineState 0, INFLIGHT none (10_state.md R35,
70_reset_and_hazards.md R281); no host operation, turn or response (log entries 1, 2, 6). -/
def State.reset : State where
  key := Vector.replicate 8 0
  keyLen := 0
  iv := Vector.replicate 8 0
  ivLen := 0
  msgLen := 0
  din := Vector.replicate 4 0
  nLo := 0
  nHi := 0
  dout := Vector.replicate 4 0
  factP := 0
  factQ := 0
  factSteps := 0
  factC := 0
  chc := Vector.replicate 4 0
  chp := Vector.replicate 4 0
  blkRemain := 0
  blkDone := 0
  passActive := false
  passDir := false
  w := Vector.replicate 60 0
  keyValid := false
  irqEn := false
  doneP := false
  errP := false
  ovrP := false
  busy := false
  done := false
  err := false
  errCode := 0
  subCause := 0
  lastOp := 0
  inflight := .none
  program := []
  schedule := []
  resp := .none

end Sys2Proof.Machine
end

