-- ==== Sys2Proof/Machine/Flags.lean ====
section
/-! DEFINITION. The status and control words as the host reads them, the error codes, and the interrupt line
(10_state.md R25 to R28, 60_exceptions.md R251, R252, R258). -/

namespace Sys2Proof.Machine

/-- ERRCODE of an error condition (60_exceptions.md R251). -/
def errCodeOf : CmdError → BitVec 4
  | .invalidKeyLength => 1
  | .invalidIvLength => 2
  | .notMultipleOf16 => 3
  | .zeroLength => 3
  | .tooSmall => 4
  | .even => 4
  | .prime => 4
  | .notSemiprime => 4
  | .square => 4
  | .factorTooLarge => 4
  | .factorizationExhausted => 5
  | .unknownOpcode => 6
  | .reservedBits => 6
  | .keyNotValid => 7
  | .noActivePass => 8
  | .passInProgress => 9

/-- SUBCAUSE of an error condition, 0 unless R252 lists one (60_exceptions.md R252). -/
def subCauseOf : CmdError → BitVec 4
  | .invalidKeyLength => 0
  | .invalidIvLength => 0
  | .notMultipleOf16 => 1
  | .zeroLength => 2
  | .tooSmall => 1
  | .even => 2
  | .prime => 3
  | .notSemiprime => 4
  | .square => 5
  | .factorTooLarge => 6
  | .factorizationExhausted => 0
  | .unknownOpcode => 1
  | .reservedBits => 2
  | .keyNotValid => 0
  | .noActivePass => 0
  | .passInProgress => 0

/-- STATUS, offset 0x00C; reserved bits read 0 (10_state.md R25, 20_memory.md R67). -/
def statusWord (s : State) : Word :=
  (0 : BitVec 8) ++ s.lastOp ++ s.subCause ++ s.errCode ++ (0 : BitVec 2) ++ BitVec.ofBool s.passDir ++
    BitVec.ofBool s.passActive ++ BitVec.ofBool s.keyValid ++ BitVec.ofBool s.err ++ BitVec.ofBool s.done ++
    BitVec.ofBool s.busy

/-- CTRL, offset 0x004: IRQ_EN in bit 0, SRST and the reserved bits read 0 (10_state.md R26). -/
def ctrlWord (s : State) : Word := (0 : BitVec 31) ++ BitVec.ofBool s.irqEn

/-- IRQ_STATUS, offset 0x010 (10_state.md R27). -/
def irqStatusWord (s : State) : Word :=
  (0 : BitVec 29) ++ BitVec.ofBool s.ovrP ++ BitVec.ofBool s.errP ++ BitVec.ofBool s.doneP

/-- ID, offset 0x000, the constant "TGC1" (10_state.md R28). -/
def idWord : Word := 0x54474331#32

/-- IRQ_PRESENT, TGC-CORE's default 1 (00_scope.md R8). -/
def irqPresent : Bool := true

/-- The interrupt line of an engine whose IRQ_PRESENT is `present` (60_exceptions.md R258). -/
def irqLineWith (present : Bool) (s : State) : Bool := present && (s.irqEn && (s.doneP || s.errP || s.ovrP))

/-- TGC-CORE's interrupt line, a level recomputed after every step (60_exceptions.md R258). -/
def irqLine (s : State) : Bool := irqLineWith irqPresent s

end Sys2Proof.Machine
end

