-- ==== Sys2Proof/Machine/Operands.lean ====
section
/-! DEFINITION. Operand assembly: bytes to registers and back (20_memory.md R68, R69), the snapshot (30_encoding.md
R98) and the IV split (42_ige_commands.md R182). -/

namespace Sys2Proof.Machine

/-- `pack(a, b, c, d) = a | b << 8 | c << 16 | d << 24` (20_memory.md R68, 30_encoding.md R102). -/
def packWord (a b c d : Byte) : Word := d ++ c ++ b ++ a

/-- Byte `j` of a packed register, `x[8*(j mod 4)+7 : 8*(j mod 4)]` (20_memory.md R68). -/
def regByte (x : Word) (j : Nat) : Byte := x.extractLsb' (8 * (j % 4)) 8

/-- A block in four registers (20_memory.md R68, m = 4). -/
def packBlock (b : Block) : Vector Word 4 :=
  Vector.ofFn fun k : Fin 4 => packWord b[4 * k.val] b[4 * k.val + 1] b[4 * k.val + 2] b[4 * k.val + 3]

/-- The block in four registers (20_memory.md R68, m = 4). -/
def unpackBlock (x : Vector Word 4) : Block :=
  Vector.ofFn fun j : Fin 16 => regByte (x[j.val / 4]) j.val

/-- A 32-byte string in eight registers (20_memory.md R68, m = 8). -/
def packBytes32 (b : Bytes32) : Vector Word 8 :=
  Vector.ofFn fun k : Fin 8 => packWord b[4 * k.val] b[4 * k.val + 1] b[4 * k.val + 2] b[4 * k.val + 3]

/-- The 32-byte string in eight registers (20_memory.md R68, m = 8). -/
def unpackBytes32 (x : Vector Word 8) : Bytes32 :=
  Vector.ofFn fun j : Fin 32 => regByte (x[j.val / 4]) j.val

/-- `Snapshot()`, the operand registers in the accepting step (30_encoding.md R98). -/
def snapshot (s : State) : Snapshot where
  key := unpackBytes32 s.key
  keyLen := s.keyLen
  iv := unpackBytes32 s.iv
  ivLen := s.ivLen
  msgLen := s.msgLen
  din := unpackBlock s.din
  n := s.nHi ++ s.nLo

/-- C_0 = IV[0..15], in order (42_ige_commands.md R182). -/
def ivFirstHalf (iv : Bytes32) : Block := Vector.ofFn fun j : Fin 16 => iv[j.val]

/-- P_0 = IV[16..31], in order (42_ige_commands.md R182). -/
def ivSecondHalf (iv : Bytes32) : Block := Vector.ofFn fun j : Fin 16 => iv[16 + j.val]

end Sys2Proof.Machine
end

