-- ==== Sys2Proof/Machine/Ops.lean ====
section
/-! DEFINITION. The shared operations: the register window and host transactions (20_memory.md), acceptance, completion
and error completion of commands (30_encoding.md R96 to R99, 60_exceptions.md R250, R260), the end of a pass
(42_ige_commands.md R186), reset (70_reset_and_hazards.md R281), and whose turn is next (20_memory.md R72). -/

namespace Sys2Proof.Machine

/-! ### The register map -/

/-- The registers of the window (20_memory.md R61). -/
inductive Reg where
  | id
  | ctrl
  | cmd
  | status
  | irqStatus
  | keyLen
  | ivLen
  | msgLen
  | key (k : Fin 8)
  | iv (k : Fin 8)
  | din (k : Fin 4)
  | dout (k : Fin 4)
  | chc (k : Fin 4)
  | chp (k : Fin 4)
  | blkRemain
  | blkDone
  | nLo
  | nHi
  | factP
  | factQ
  | factSteps
  | factC
deriving DecidableEq, Repr

/-- The access classes (20_memory.md R63). -/
inductive AccessClass where
  | rw
  | ro
  | wo
  | rw1c
deriving DecidableEq, Repr

/-- Offset of a register from ENGINE_BASE (20_memory.md R61). -/
def regOffset : Reg → Nat
  | .id => 0x000
  | .ctrl => 0x004
  | .cmd => 0x008
  | .status => 0x00C
  | .irqStatus => 0x010
  | .keyLen => 0x014
  | .ivLen => 0x018
  | .msgLen => 0x01C
  | .key k => 0x020 + 4 * k.val
  | .iv k => 0x040 + 4 * k.val
  | .din k => 0x060 + 4 * k.val
  | .dout k => 0x070 + 4 * k.val
  | .chc k => 0x080 + 4 * k.val
  | .chp k => 0x090 + 4 * k.val
  | .blkRemain => 0x0A0
  | .blkDone => 0x0A4
  | .nLo => 0x0B0
  | .nHi => 0x0B4
  | .factP => 0x0B8
  | .factQ => 0x0BC
  | .factSteps => 0x0C0
  | .factC => 0x0C4

/-- Access class of a register (20_memory.md R61). -/
def regAccess : Reg → AccessClass
  | .id => .ro
  | .ctrl => .rw
  | .cmd => .wo
  | .status => .ro
  | .irqStatus => .rw1c
  | .keyLen => .rw
  | .ivLen => .rw
  | .msgLen => .rw
  | .key _ => .wo
  | .iv _ => .rw
  | .din _ => .rw
  | .dout _ => .ro
  | .chc _ => .ro
  | .chp _ => .ro
  | .blkRemain => .ro
  | .blkDone => .ro
  | .nLo => .rw
  | .nHi => .rw
  | .factP => .ro
  | .factQ => .ro
  | .factSteps => .ro
  | .factC => .ro

/-- The control and length registers, 0x000 to 0x01F (20_memory.md R61). -/
def controlRegs : List Reg := [.id, .ctrl, .cmd, .status, .irqStatus, .keyLen, .ivLen, .msgLen]

/-- The block counters and the factorization registers, 0x0A0 to 0x0C7 (20_memory.md R61). -/
def counterRegs : List Reg := [.blkRemain, .blkDone, .nLo, .nHi, .factP, .factQ, .factSteps, .factC]

/-- The indices 0 to 3 of a block's registers. -/
def index4 : List (Fin 4) := [0, 1, 2, 3]

/-- The indices 0 to 7 of a 32-byte string's registers. -/
def index8 : List (Fin 8) := [0, 1, 2, 3, 4, 5, 6, 7]

/-- Every register of the window (20_memory.md R61). -/
def allRegs : List Reg :=
  controlRegs ++ index8.map Reg.key ++ index8.map Reg.iv ++ index4.map Reg.din ++ index4.map Reg.dout ++
    index4.map Reg.chc ++ index4.map Reg.chp ++ counterRegs

/-- The register at an offset; none where the offset is misaligned, reserved or outside the window (20_memory.md R61,
R62, R64). -/
def regAt (off : Nat) : Option Reg := allRegs.find? fun r => regOffset r == off

/-- The bus address of an offset (20_memory.md R60). -/
def busAddress (off : Nat) : Nat := Config.engineBase + off

/-- The host operation `MemRead(addr, size)` (00_scope.md R12). Below ENGINE_BASE the address belongs to the platform
and not to this engine (20_memory.md R60, log entry 5). -/
def memRead (addr size : Nat) : Option HostOp :=
  if Config.engineBase ≤ addr then some (.read (addr - Config.engineBase) size) else none

/-- The host operation `MemWrite(addr, size, v)` (00_scope.md R12, 20_memory.md R60, log entry 5). -/
def memWrite (addr size : Nat) (v : Word) : Option HostOp :=
  if Config.engineBase ≤ addr then some (.write (addr - Config.engineBase) size v) else none

/-- The address a BusError carries (20_memory.md R62: `BusError(ENGINE_BASE + off)`). -/
def busErrorAddress : BusResponse → Option Nat
  | .busError off => some (busAddress off)
  | .none => none
  | .data _ => none
  | .written => none

/-! ### Commands: acceptance and completion -/

/-- Accept(v), a CMD write with BUSY = 0 (30_encoding.md R96). -/
def acceptCommand (v : Word) (s : State) : State :=
  { s with
    lastOp := opcodeField v
    done := false
    err := false
    errCode := 0
    subCause := 0
    inflight := some { cmd := decode v, snap := snapshot s }
    busy := true }

/-- A CMD write: accepted if BUSY = 0 (30_encoding.md R96), dropped with OVR_P if BUSY = 1 (R97). -/
def writeCmd (v : Word) (s : State) : State :=
  if s.busy then { s with ovrP := true } else acceptCommand v s

/-- Completion without error (30_encoding.md R99). -/
def completeOk (s : State) : State :=
  { s with busy := false, done := true, doneP := true, inflight := none }

/-- Error completion, the "trap entry" of this hardware: it saves ERRCODE and SUBCAUSE (LAST_OP was saved at acceptance)
and changes no mode, mask or other state (30_encoding.md R99, 60_exceptions.md R250, R253, R260). There is no return
operation: the next acceptance clears the record (60_exceptions.md R261). -/
def completeError (e : CmdError) (s : State) : State :=
  { s with
    busy := false
    done := true
    doneP := true
    err := true
    errCode := errCodeOf e
    subCause := subCauseOf e
    errP := true
    inflight := none }

/-- The end of the completion step (30_encoding.md R99). -/
def finish : ExecResult → State
  | .completes s => completeOk s
  | .raises e s => completeError e s

/-- Complete() for a command whose `Execute` is `rule`: enabled iff BUSY = 1, on the snapshot INFLIGHT holds
(30_encoding.md R99). -/
def runCommand (rule : Snapshot → State → ExecResult) (s : State) : Host.Outcome State Fault Refusal :=
  if s.busy then
    match s.inflight with
    | some f => .next (finish (rule f.snap s))
    | none => .fault .completionNotEnabled
  else .fault .completionNotEnabled

/-- EndPass() (42_ige_commands.md R186). -/
def endPass (s : State) : State :=
  { s with
    passActive := false
    passDir := false
    chc := Vector.replicate 4 0
    chp := Vector.replicate 4 0
    blkRemain := 0 }

/-- Reset(), soft or power-on: every field of EngineState at its reset value (70_reset_and_hazards.md R280, R281). The
host's program, the schedule and the bus's last answer are not the engine's (log entry 9). -/
def engineReset (s : State) : State :=
  { State.reset with program := s.program, schedule := s.schedule, resp := s.resp }

/-! ### Register reads and writes -/

/-- The value a read of a readable register returns (20_memory.md R62, R63). CMD and KEYk are write-only and read 0
(R66, 10_state.md R21). -/
def readReg (s : State) : Reg → Word
  | .id => idWord
  | .ctrl => ctrlWord s
  | .cmd => 0
  | .status => statusWord s
  | .irqStatus => irqStatusWord s
  | .keyLen => s.keyLen
  | .ivLen => s.ivLen
  | .msgLen => s.msgLen
  | .key _ => 0
  | .iv k => s.iv[k]
  | .din k => s.din[k]
  | .dout k => s.dout[k]
  | .chc k => s.chc[k]
  | .chp k => s.chp[k]
  | .blkRemain => s.blkRemain
  | .blkDone => s.blkDone
  | .nLo => s.nLo
  | .nHi => s.nHi
  | .factP => s.factP
  | .factQ => s.factQ
  | .factSteps => s.factSteps
  | .factC => s.factC

/-- A CTRL write: SRST = 1 resets and its IRQ_EN bit is discarded, else bit 0 goes to IRQ_EN (10_state.md R26). -/
def writeCtrl (v : Word) (s : State) : State :=
  if v.getLsbD 1 then engineReset s else { s with irqEn := v.getLsbD 0 }

/-- An IRQ_STATUS write clears each bit written 1 (10_state.md R27, 60_exceptions.md R259). -/
def writeIrqStatus (v : Word) (s : State) : State :=
  { s with
    doneP := s.doneP && !v.getLsbD 0
    errP := s.errP && !v.getLsbD 1
    ovrP := s.ovrP && !v.getLsbD 2 }

/-- The effect of a write on a register; a read-only register is not changed (20_memory.md R62, R63, R65). -/
def writeReg (r : Reg) (v : Word) (s : State) : State :=
  match r with
  | .id => s
  | .ctrl => writeCtrl v s
  | .cmd => writeCmd v s
  | .status => s
  | .irqStatus => writeIrqStatus v s
  | .keyLen => { s with keyLen := v }
  | .ivLen => { s with ivLen := v }
  | .msgLen => { s with msgLen := v }
  | .key k => { s with key := s.key.set k v }
  | .iv k => { s with iv := s.iv.set k v }
  | .din k => { s with din := s.din.set k v }
  | .dout _ => s
  | .chc _ => s
  | .chp _ => s
  | .blkRemain => s
  | .blkDone => s
  | .nLo => { s with nLo := v }
  | .nHi => { s with nHi := v }
  | .factP => s
  | .factQ => s
  | .factSteps => s
  | .factC => s

/-- HostRead: the bus's answer to a read of `size` bytes at `off`; reads have no side effect (20_memory.md R62, R71). -/
def hostRead (off size : Nat) (s : State) : BusResponse :=
  if size = 4 then
    match regAt off with
    | some r => .data (readReg s r)
    | none => .busError off
  else .busError off

/-- The bus's answer to a write of `size` bytes at `off` (20_memory.md R62, R65). -/
def hostWriteResponse (off size : Nat) : BusResponse :=
  if size = 4 then
    match regAt off with
    | some r => if regAccess r = .ro then .busError off else .written
    | none => .busError off
  else .busError off

/-- HostWrite: the engine's state after a write of `size` bytes at `off`; unchanged on a BusError (20_memory.md R62
to R65). -/
def hostWrite (off size : Nat) (v : Word) (s : State) : State :=
  if size = 4 then
    match regAt off with
    | some r => if regAccess r = .ro then s else writeReg r v s
    | none => s
  else s

/-! ### Turns -/

/-- One operation of the host's program, with `rest` to follow (00_scope.md R6, 30_encoding.md R102). WAIT stays until
it reads BUSY = 0. -/
def hostOp (op : HostOp) (rest : List HostOp) (s : State) : State :=
  match op with
  | .read off size => { s with program := rest, resp := hostRead off size s }
  | .write off size v =>
    { hostWrite off size v { s with program := rest } with resp := hostWriteResponse off size }
  | .wait =>
    { s with
      program := if (statusWord s).getLsbD 0 then .wait :: rest else rest
      resp := .data (statusWord s) }

/-- The host's turn: its next operation, nothing where its program has ended (log entry 3). -/
def hostTurn (s : State) : State :=
  match s.program with
  | [] => s
  | op :: rest => hostOp op rest s

/-- Whose turn it is: the schedule's first, or, where it is empty, the sequencer's if a command is in flight and the
host's if not (20_memory.md R72, 70_reset_and_hazards.md R291, log entry 2). -/
def turnOf (s : State) : Turn :=
  match s.schedule with
  | t :: _ => t
  | [] => if s.busy then .sequencer else .host

/-- The schedule after this turn. -/
def takeTurn (s : State) : State := { s with schedule := s.schedule.tail }

end Sys2Proof.Machine
end

