-- ==== Sys2Proof/Machine/Cipher.lean ====
section
/-! DEFINITION. The block cipher engine commands KEY_EXPAND, ENC_BLOCK and DEC_BLOCK (41_block_commands.md). -/

namespace Sys2Proof.Machine

/-- W <- KeyExpansion(key); KEY_VALID <- 1 (41_block_commands.md R160, 20_memory.md R76). -/
def loadSchedule (key : Bytes32) (s : State) : State := { s with w := keyExpansion key, keyValid := true }

/-- KEY_EXPAND's Execute (41_block_commands.md R160). -/
def keyExpandRule (S : Snapshot) (s : State) : ExecResult :=
  if s.passActive then .raises .passInProgress s
  else if S.keyLen ≠ 32 then .raises .invalidKeyLength s
  else .completes (loadSchedule S.key s)

/-- KEY_EXPAND (41_block_commands.md R160). -/
def execKeyExpand (s : State) : Host.Outcome State Fault Refusal := runCommand keyExpandRule s

/-- Execute of the single-block commands with transform `f` (41_block_commands.md R161, R162). -/
def blockRule (f : Schedule → Block → Block) (S : Snapshot) (s : State) : ExecResult :=
  if s.passActive then .raises .passInProgress s
  else if s.keyValid = false then .raises .keyNotValid s
  else .completes { s with dout := packBlock (f s.w S.din) }

/-- ENC_BLOCK (41_block_commands.md R161). -/
def execEncBlock (s : State) : Host.Outcome State Fault Refusal := runCommand (blockRule cipher) s

/-- DEC_BLOCK (41_block_commands.md R162). -/
def execDecBlock (s : State) : Host.Outcome State Fault Refusal := runCommand (blockRule invCipher) s

end Sys2Proof.Machine
end

