-- ==== Sys2Proof/Machine/Control.lean ====
section
/-! DEFINITION. The control commands NOP and ZEROIZE (44_control_commands.md R240, R241). -/

namespace Sys2Proof.Machine

/-- NOP's Execute: `complete` (44_control_commands.md R240). -/
def nopRule (_S : Snapshot) (s : State) : ExecResult := .completes s

/-- NOP (44_control_commands.md R240). -/
def execNop (s : State) : Host.Outcome State Fault Refusal := runCommand nopRule s

/-- The writes of ZEROIZE (44_control_commands.md R241). -/
def clearAll (s : State) : State :=
  { s with
    key := Vector.replicate 8 0
    keyLen := 0
    w := Vector.replicate 60 0
    keyValid := false
    iv := Vector.replicate 8 0
    ivLen := 0
    msgLen := 0
    din := Vector.replicate 4 0
    dout := Vector.replicate 4 0
    chc := Vector.replicate 4 0
    chp := Vector.replicate 4 0
    passActive := false
    passDir := false
    blkRemain := 0
    blkDone := 0
    nLo := 0
    nHi := 0
    factP := 0
    factQ := 0
    factSteps := 0
    factC := 0 }

/-- ZEROIZE's Execute; it ignores the snapshot (44_control_commands.md R241). -/
def zeroizeRule (_S : Snapshot) (s : State) : ExecResult := .completes (clearAll s)

/-- ZEROIZE (44_control_commands.md R241). -/
def execZeroize (s : State) : Host.Outcome State Fault Refusal := runCommand zeroizeRule s

end Sys2Proof.Machine
end

