-- ==== Sys2Proof/Machine/Factor.lean ====
section
/-! DEFINITION. The factorization engine and the command FACTORIZE (43_factorization.md). All arithmetic is on exact
naturals (R200, R201). The pseudocode's loops are recursions with an explicit bound that no run exceeds (log entry 11). -/

namespace Sys2Proof.Machine

/-- TGC-CORE's values of the factorization parameters (00_scope.md R8, 43_factorization.md R203, R206). -/
def tgcFactParams : Config.FactParams where
  trialPrimes :=
    [3, 5, 7, 11, 13, 17, 19, 23, 29, 31, 37, 41, 43, 47, 53, 59, 61, 67] ++
    [71, 73, 79, 83, 89, 97, 101, 103, 107, 109, 113, 127, 131, 137, 139, 149, 151, 157] ++
    [163, 167, 173, 179, 181, 191, 193, 197, 199, 211, 223, 227, 229, 233, 239, 241, 251]
  mrBases := [2, 3, 5, 7, 11, 13, 17, 19, 23, 29, 31, 37]
  rhoX0 := 2
  attempts := 16
  rhoBatch := 128
  rhoRLimit := 2 ^ 20

/-! ### Arithmetic -/

/-- `MulMod(a, b, n) = (a · b) mod n`, the product exact (43_factorization.md R201). -/
def mulMod (a b n : Nat) : Nat := a * b % n

/-- The iteration function `f_c(v) = (v · v + c) mod n` (43_factorization.md R201). -/
def rhoStep (n c v : Nat) : Nat := (v * v + c) % n

/-- `|a - b|` (00_scope.md R10, 43_factorization.md R202). -/
def absdiff (a b : Nat) : Nat := if a ≥ b then a - b else b - a

/-- Square-and-multiply over `bits` bits of the exponent, with accumulator `acc` (43_factorization.md R201). -/
def powModLoop (m : Nat) : Nat → Nat → Nat → Nat → Nat
  | 0, _, _, acc => acc
  | bits + 1, b, e, acc => powModLoop m bits (mulMod b b m) (e / 2) (if e % 2 = 1 then mulMod acc b m else acc)

/-- `PowMod(b, e, m)` is b^e mod m (43_factorization.md R201). -/
def powMod (b e m : Nat) : Nat := powModLoop m (e.log2 + 1) (b % m) e (1 % m)

/-! ### Primality -/

/-- The first loop of IsPrime: `m = b` gives true, a divisor `b` gives false, else the test goes on
(43_factorization.md R203). -/
def smallBaseTest (m : Nat) : List Nat → Option Bool
  | [] => none
  | b :: bs => if m = b then some true else if m % b = 0 then some false else smallBaseTest m bs

/-- `while d mod 2 = 0: d <- d div 2; s <- s + 1`, at most `bound` turns (43_factorization.md R203). -/
def splitTwos : Nat → Nat → Nat → Nat × Nat
  | 0, d, s => (d, s)
  | bound + 1, d, s => if d % 2 = 0 then splitTwos bound (d / 2) (s + 1) else (d, s)

/-- `repeat k times: x <- MulMod(x, x, m); if x = m - 1: found` (43_factorization.md R203). -/
def squaresHitMinusOne (m : Nat) : Nat → Nat → Bool
  | 0, _ => false
  | k + 1, x => if mulMod x x m = m - 1 then true else squaresHitMinusOne m k (mulMod x x m)

/-- Base `b` does not witness that `m` is composite, where m - 1 = d · 2^s (43_factorization.md R203). -/
def strongTest (m d s b : Nat) : Bool :=
  let x := powMod b d m
  x == 1 || x == m - 1 || squaresHitMinusOne m (s - 1) x

/-- `IsPrime(m)`, deterministic Miller-Rabin over `bases` (43_factorization.md R203). -/
def isPrimeWith (bases : List Nat) (m : Nat) : Bool :=
  if m < 2 then false
  else
    match smallBaseTest m bases with
    | some answer => answer
    | none =>
      let ds := splitTwos (m.log2 + 1) (m - 1) 0
      bases.all (strongTest m ds.1 ds.2)

/-- TGC-CORE's `IsPrime(m)` (43_factorization.md R203). -/
def isPrime (m : Nat) : Bool := isPrimeWith tgcFactParams.mrBases m

/-! ### Trial division and Pollard's rho -/

/-- `TrialDivide(n)`: the first of `primes` that divides n (43_factorization.md R206). -/
def trialDivide (primes : List Nat) (n : Nat) : Option Nat := primes.find? fun t => n % t == 0

/-- The working values of one rho attempt (10_state.md R34, 43_factorization.md R208). -/
structure RhoState where
  /-- the tortoise checkpoint -/
  x : Nat
  /-- the hare -/
  y : Nat
  /-- the hare at the start of the last batch -/
  ys : Nat
  /-- the running product -/
  q : Nat
  /-- the last gcd -/
  g : Nat
  /-- evaluations of f_c so far -/
  steps : Nat
deriving DecidableEq, Repr

/-- `repeat r times: y <- f_c(y); steps <- steps + 1` (43_factorization.md R208). -/
def advanceHare (n c : Nat) : Nat → RhoState → RhoState
  | 0, v => v
  | r + 1, v => advanceHare n c r { v with y := rhoStep n c v.y, steps := v.steps + 1 }

/-- The inner repeat of a batch: `y <- f_c(y); steps <- steps + 1; q <- MulMod(q, absdiff(x, y), n)`
(43_factorization.md R208). -/
def batchSteps (n c : Nat) : Nat → RhoState → RhoState
  | 0, v => v
  | r + 1, v =>
    batchSteps n c r
      { v with
        y := rhoStep n c v.y
        steps := v.steps + 1
        q := mulMod v.q (absdiff v.x (rhoStep n c v.y)) n }

/-- One batch of at most `len` steps: `ys <- y`, the steps, `g <- gcd(q, n)` (43_factorization.md R208). -/
def runBatch (n c len : Nat) (v : RhoState) : RhoState :=
  let v' := batchSteps n c len { v with ys := v.y }
  { v' with g := Nat.gcd v'.q n }

/-- `while k < r and g = 1`, at most `bound` turns, each RHO_BATCH further (43_factorization.md R208). -/
def batchLoop (batch n c r : Nat) : Nat → Nat → RhoState → RhoState
  | 0, _, v => v
  | bound + 1, k, v =>
    if k < r ∧ v.g = 1 then batchLoop batch n c r bound (k + batch) (runBatch n c (min batch (r - k)) v)
    else v

/-- One block of length `r`: the checkpoint, the hare's r steps, the batches (43_factorization.md R208). -/
def rhoBlock (batch n c r : Nat) (v : RhoState) : RhoState :=
  batchLoop batch n c r r 0 (advanceHare n c r { v with x := v.y })

/-- The outer loop over block lengths r, 2r, 4r, ...: `some` where it is left with g ≠ 1, `none` where the budget is
spent, each with the working values (43_factorization.md R208, R210). -/
def rhoLoop (batch limit n c : Nat) : Nat → Nat → RhoState → Bool × RhoState
  | 0, _, v => (false, v)
  | blocks + 1, r, v =>
    let v' := rhoBlock batch n c r v
    if v'.g ≠ 1 then (true, v')
    else if 2 * r > limit then (false, v')
    else rhoLoop batch limit n c blocks (2 * r) v'

/-- The backtrack: `repeat at most RHO_BATCH times: ys <- f_c(ys); steps; g <- gcd(absdiff(x, ys), n); if g > 1: leave`
(43_factorization.md R208). -/
def backtrack (n c : Nat) : Nat → RhoState → RhoState
  | 0, v => v
  | k + 1, v =>
    let v' : RhoState :=
      { v with
        ys := rhoStep n c v.ys
        steps := v.steps + 1
        g := Nat.gcd (absdiff v.x (rhoStep n c v.ys)) n }
    if v'.g > 1 then v' else backtrack n c k v'

/-- What one attempt gives: a factor or none, and its count of evaluations (43_factorization.md R208). -/
structure AttemptResult where
  factor : Option Nat
  steps : Nat
deriving DecidableEq, Repr

/-- The block lengths one attempt can process: r = 1, 2, 4, ..., up to RHO_R_LIMIT (43_factorization.md R210). -/
def blockCount (limit : Nat) : Nat := limit.log2 + 1

/-- `BrentAttempt(n, c)` (43_factorization.md R208). -/
def brentAttempt (P : Config.FactParams) (n c : Nat) : AttemptResult :=
  let start : RhoState := { x := P.rhoX0, y := P.rhoX0, ys := P.rhoX0, q := 1, g := 1, steps := 0 }
  let out := rhoLoop P.rhoBatch P.rhoRLimit n c (blockCount P.rhoRLimit) 1 start
  if out.1 = false then { factor := none, steps := out.2.steps }
  else
    let v := if out.2.g = n then backtrack n c P.rhoBatch out.2 else out.2
    if v.g = n ∨ v.g = 1 then { factor := none, steps := v.steps } else { factor := some v.g, steps := v.steps }

/-- What the search gives: a factor or none, the total of evaluations and the last c tried (43_factorization.md R209,
R213, R214). -/
structure SearchResult where
  factor : Option Nat
  steps : Nat
  clast : Nat
deriving DecidableEq, Repr

/-- Attempts with offsets clast + 1, clast + 2, ..., `left` of them (43_factorization.md R209). -/
def rhoSearch (P : Config.FactParams) (n : Nat) : Nat → Nat → Nat → SearchResult
  | 0, steps, clast => { factor := none, steps := steps, clast := clast }
  | left + 1, steps, clast =>
    let a := brentAttempt P n (clast + 1)
    match a.factor with
    | some d => { factor := some d, steps := steps + a.steps, clast := clast + 1 }
    | none => rhoSearch P n left (steps + a.steps) (clast + 1)

/-- Trial division, and the rho search where it finds nothing (43_factorization.md R206, R215). -/
def findFactor (P : Config.FactParams) (n : Nat) : SearchResult :=
  match trialDivide P.trialPrimes n with
  | some d => { factor := some d, steps := 0, clast := 0 }
  | none => rhoSearch P n P.attempts 0 0

/-! ### The command -/

/-- How a factorization ends (43_factorization.md R215). -/
inductive FactOutcome where
  /-- the Factor Pair, p < q -/
  | factors (p q : Nat)
  /-- `fail(code, sub)` -/
  | failed (e : CmdError)
deriving DecidableEq, Repr

/-- The outcome and the work done (43_factorization.md R213, R214, R215). -/
structure FactResult where
  outcome : FactOutcome
  steps : Nat
  clast : Nat
deriving DecidableEq, Repr

/-- The post-checks on a factor `d` of n, in order (43_factorization.md R211, R212). -/
def postCheck (P : Config.FactParams) (n d : Nat) : FactOutcome :=
  let p := min d (n / d)
  let q := max d (n / d)
  if ¬(isPrimeWith P.mrBases p ∧ isPrimeWith P.mrBases q) then .failed .notSemiprime
  else if p = q then .failed .square
  else if q ≥ 2 ^ 32 then .failed .factorTooLarge
  else .factors p q

/-- The pre-checks, in order (43_factorization.md R205). -/
def preCheck (P : Config.FactParams) (n : Nat) : Option CmdError :=
  if n ≤ 3 then some .tooSmall
  else if n % 2 = 0 then some .even
  else if isPrimeWith P.mrBases n then some .prime
  else none

/-- The whole factorization of n (43_factorization.md R215, R216). -/
def factorizeWith (P : Config.FactParams) (n : Nat) : FactResult :=
  match preCheck P n with
  | some e => { outcome := .failed e, steps := 0, clast := 0 }
  | none =>
    let r := findFactor P n
    match r.factor with
    | none => { outcome := .failed .factorizationExhausted, steps := r.steps, clast := r.clast }
    | some d => { outcome := postCheck P n d, steps := r.steps, clast := r.clast }

/-- The 32-bit value of a count, saturated (43_factorization.md R213). -/
def saturate32 (count : Nat) : Word := BitVec.ofNat 32 (min count (2 ^ 32 - 1))

/-- FACTORIZE's writes and its end: FACT_P and FACT_Q are 0 on every error, FACT_STEPS and FACT_C report the work done
(43_factorization.md R215, 10_state.md R22). -/
def publishFactors (r : FactResult) (s : State) : ExecResult :=
  match r.outcome with
  | .factors p q =>
    .completes
      { s with
        factP := BitVec.ofNat 32 p
        factQ := BitVec.ofNat 32 q
        factSteps := saturate32 r.steps
        factC := BitVec.ofNat 32 r.clast }
  | .failed e =>
    .raises e
      { s with
        factP := 0
        factQ := 0
        factSteps := saturate32 r.steps
        factC := BitVec.ofNat 32 r.clast }

/-- FACTORIZE's Execute under parameters `P` (43_factorization.md R215). -/
def factorizeRule (P : Config.FactParams) (S : Snapshot) (s : State) : ExecResult :=
  publishFactors (factorizeWith P S.n.toNat) s

/-- FACTORIZE, with TGC-CORE's parameters (43_factorization.md R215, 00_scope.md R8). -/
def execFactorize (s : State) : Host.Outcome State Fault Refusal := runCommand (factorizeRule tgcFactParams) s

end Sys2Proof.Machine
end

