-- ==== Sys2Proof/Machine/Ige.lean ====
section
/-! DEFINITION. The IGE chaining controller: the chaining law and the commands IGE_ENC_START, IGE_DEC_START, IGE_STEP
and IGE_ABORT (42_ige_commands.md). -/

namespace Sys2Proof.Machine

/-- C_i = Encrypt(P_i XOR C_{i-1}) XOR P_{i-1} (42_ige_commands.md R180). -/
def igeEncryptBlock (w : Schedule) (prevCipher prevPlain p : Block) : Block :=
  blockXor (cipher w (blockXor p prevCipher)) prevPlain

/-- P_i = Decrypt(C_i XOR P_{i-1}) XOR C_{i-1} (42_ige_commands.md R181). -/
def igeDecryptBlock (w : Schedule) (prevCipher prevPlain c : Block) : Block :=
  blockXor (invCipher w (blockXor c prevPlain)) prevCipher

/-- The encryption law over a whole buffer P_1..P_k from (C_0, P_0): the blocks C_1..C_k (42_ige_commands.md R180). -/
def igeEncrypt (w : Schedule) : Block → Block → List Block → List Block
  | _, _, [] => []
  | prevCipher, prevPlain, p :: ps =>
    igeEncryptBlock w prevCipher prevPlain p :: igeEncrypt w (igeEncryptBlock w prevCipher prevPlain p) p ps

/-- The decryption law over a whole buffer C_1..C_k from (C_0, P_0): the blocks P_1..P_k (42_ige_commands.md R181). -/
def igeDecrypt (w : Schedule) : Block → Block → List Block → List Block
  | _, _, [] => []
  | prevCipher, prevPlain, c :: cs =>
    igeDecryptBlock w prevCipher prevPlain c :: igeDecrypt w c (igeDecryptBlock w prevCipher prevPlain c) cs

/-- Execute of a pass start; `dir` is the PASS_DIR it sets (42_ige_commands.md R183, R184). -/
def igeStartRule (dir : Bool) (S : Snapshot) (s : State) : ExecResult :=
  if s.passActive then .raises .passInProgress s
  else if S.keyLen ≠ 32 then .raises .invalidKeyLength s
  else if S.ivLen ≠ 32 then .raises .invalidIvLength s
  else if S.msgLen.toNat % 16 ≠ 0 then .raises .notMultipleOf16 s
  else if S.msgLen = 0 then .raises .zeroLength s
  else .completes
    { loadSchedule S.key s with
      chc := packBlock (ivFirstHalf S.iv)
      chp := packBlock (ivSecondHalf S.iv)
      blkRemain := BitVec.ofNat 32 (S.msgLen.toNat / 16)
      blkDone := 0
      passActive := true
      passDir := dir }

/-- IGE_ENC_START (42_ige_commands.md R183). -/
def execIgeEncStart (s : State) : Host.Outcome State Fault Refusal := runCommand (igeStartRule false) s

/-- IGE_DEC_START (42_ige_commands.md R184). -/
def execIgeDecStart (s : State) : Host.Outcome State Fault Refusal := runCommand (igeStartRule true) s

/-- The chaining part of IGE_STEP on block `b`: DOUT, CHC and CHP (42_ige_commands.md R185). -/
def igeTransform (b : Block) (s : State) : State :=
  if s.passDir = false then
    let o := igeEncryptBlock s.w (unpackBlock s.chc) (unpackBlock s.chp) b
    { s with chc := packBlock o, chp := packBlock b, dout := packBlock o }
  else
    let o := igeDecryptBlock s.w (unpackBlock s.chc) (unpackBlock s.chp) b
    { s with chp := packBlock o, chc := packBlock b, dout := packBlock o }

/-- The counting part of IGE_STEP: BLK_REMAIN and BLK_DONE (42_ige_commands.md R185; log entry 10 on wrap-around). -/
def countBlock (s : State) : State := { s with blkRemain := s.blkRemain - 1, blkDone := s.blkDone + 1 }

/-- `if BLK_REMAIN = 0: EndPass()` (42_ige_commands.md R185, R186). -/
def endPassIfDone (s : State) : State := if s.blkRemain = 0 then endPass s else s

/-- IGE_STEP's Execute (42_ige_commands.md R185). -/
def igeStepRule (S : Snapshot) (s : State) : ExecResult :=
  if s.passActive = false then .raises .noActivePass s
  else .completes (endPassIfDone (countBlock (igeTransform S.din s)))

/-- IGE_STEP (42_ige_commands.md R185). -/
def execIgeStep (s : State) : Host.Outcome State Fault Refusal := runCommand igeStepRule s

/-- IGE_ABORT's Execute (42_ige_commands.md R187). -/
def igeAbortRule (_S : Snapshot) (s : State) : ExecResult :=
  .completes (if s.passActive then endPass s else s)

/-- IGE_ABORT (42_ige_commands.md R187). -/
def execIgeAbort (s : State) : Host.Outcome State Fault Refusal := runCommand igeAbortRule s

end Sys2Proof.Machine
end

