-- ==== Sys2Proof/Machine/Illegal.lean ====
section
/-! DEFINITION. The illegal command words: 30 rows of opcode_table.json, one meaning each over one shared rule
(30_encoding.md R93, 44_control_commands.md R242). -/

namespace Sys2Proof.Machine

/-- The error of an illegal word: RESERVED_BITS if RSVD ≠ 0, whatever the OPCODE, else UNKNOWN_OPCODE (30_encoding.md
R93, 44_control_commands.md R242). -/
def illegalError (w : Word) : CmdError := if rsvdField w ≠ 0 then .reservedBits else .unknownOpcode

/-- An illegal word's Execute: `raise CmdError(ILLEGAL_COMMAND, sub)`, no write (44_control_commands.md R242). -/
def illegalRule (w : Word) (_S : Snapshot) (s : State) : ExecResult := .raises (illegalError w) s

/-- The completion of an illegal word (30_encoding.md R93, R99, R100). -/
def runIllegal (w : Word) (s : State) : Host.Outcome State Fault Refusal := runCommand (illegalRule w) s

/-- ILLEGAL_OPCODE_0A_0B: RSVD = 0 and OPCODE 0x0A..0x0B, illegal (44_control_commands.md R242). -/
def execIllegalOpcode0A0B (w : Word) (s : State) : Host.Outcome State Fault Refusal := runIllegal w s

/-- ILLEGAL_OPCODE_0C_0F: RSVD = 0 and OPCODE 0x0C..0x0F, illegal (44_control_commands.md R242). -/
def execIllegalOpcode0C0F (w : Word) (s : State) : Host.Outcome State Fault Refusal := runIllegal w s

/-- ILLEGAL_OPCODE_10_1F: RSVD = 0 and OPCODE 0x10..0x1F, illegal (44_control_commands.md R242). -/
def execIllegalOpcode101F (w : Word) (s : State) : Host.Outcome State Fault Refusal := runIllegal w s

/-- ILLEGAL_OPCODE_20_3F: RSVD = 0 and OPCODE 0x20..0x3F, illegal (44_control_commands.md R242). -/
def execIllegalOpcode203F (w : Word) (s : State) : Host.Outcome State Fault Refusal := runIllegal w s

/-- ILLEGAL_OPCODE_40_7F: RSVD = 0 and OPCODE 0x40..0x7F, illegal (44_control_commands.md R242). -/
def execIllegalOpcode407F (w : Word) (s : State) : Host.Outcome State Fault Refusal := runIllegal w s

/-- ILLEGAL_OPCODE_80_FF: RSVD = 0 and OPCODE 0x80..0xFF, illegal (44_control_commands.md R242). -/
def execIllegalOpcode80FF (w : Word) (s : State) : Host.Outcome State Fault Refusal := runIllegal w s

/-- ILLEGAL_RSVD_BIT31: highest set bit 31, illegal (44_control_commands.md R242). -/
def execIllegalRsvdBit31 (w : Word) (s : State) : Host.Outcome State Fault Refusal := runIllegal w s

/-- ILLEGAL_RSVD_BIT30: highest set bit 30, illegal (44_control_commands.md R242). -/
def execIllegalRsvdBit30 (w : Word) (s : State) : Host.Outcome State Fault Refusal := runIllegal w s

/-- ILLEGAL_RSVD_BIT29: highest set bit 29, illegal (44_control_commands.md R242). -/
def execIllegalRsvdBit29 (w : Word) (s : State) : Host.Outcome State Fault Refusal := runIllegal w s

/-- ILLEGAL_RSVD_BIT28: highest set bit 28, illegal (44_control_commands.md R242). -/
def execIllegalRsvdBit28 (w : Word) (s : State) : Host.Outcome State Fault Refusal := runIllegal w s

/-- ILLEGAL_RSVD_BIT27: highest set bit 27, illegal (44_control_commands.md R242). -/
def execIllegalRsvdBit27 (w : Word) (s : State) : Host.Outcome State Fault Refusal := runIllegal w s

/-- ILLEGAL_RSVD_BIT26: highest set bit 26, illegal (44_control_commands.md R242). -/
def execIllegalRsvdBit26 (w : Word) (s : State) : Host.Outcome State Fault Refusal := runIllegal w s

/-- ILLEGAL_RSVD_BIT25: highest set bit 25, illegal (44_control_commands.md R242). -/
def execIllegalRsvdBit25 (w : Word) (s : State) : Host.Outcome State Fault Refusal := runIllegal w s

/-- ILLEGAL_RSVD_BIT24: highest set bit 24, illegal (44_control_commands.md R242). -/
def execIllegalRsvdBit24 (w : Word) (s : State) : Host.Outcome State Fault Refusal := runIllegal w s

/-- ILLEGAL_RSVD_BIT23: highest set bit 23, illegal (44_control_commands.md R242). -/
def execIllegalRsvdBit23 (w : Word) (s : State) : Host.Outcome State Fault Refusal := runIllegal w s

/-- ILLEGAL_RSVD_BIT22: highest set bit 22, illegal (44_control_commands.md R242). -/
def execIllegalRsvdBit22 (w : Word) (s : State) : Host.Outcome State Fault Refusal := runIllegal w s

/-- ILLEGAL_RSVD_BIT21: highest set bit 21, illegal (44_control_commands.md R242). -/
def execIllegalRsvdBit21 (w : Word) (s : State) : Host.Outcome State Fault Refusal := runIllegal w s

/-- ILLEGAL_RSVD_BIT20: highest set bit 20, illegal (44_control_commands.md R242). -/
def execIllegalRsvdBit20 (w : Word) (s : State) : Host.Outcome State Fault Refusal := runIllegal w s

/-- ILLEGAL_RSVD_BIT19: highest set bit 19, illegal (44_control_commands.md R242). -/
def execIllegalRsvdBit19 (w : Word) (s : State) : Host.Outcome State Fault Refusal := runIllegal w s

/-- ILLEGAL_RSVD_BIT18: highest set bit 18, illegal (44_control_commands.md R242). -/
def execIllegalRsvdBit18 (w : Word) (s : State) : Host.Outcome State Fault Refusal := runIllegal w s

/-- ILLEGAL_RSVD_BIT17: highest set bit 17, illegal (44_control_commands.md R242). -/
def execIllegalRsvdBit17 (w : Word) (s : State) : Host.Outcome State Fault Refusal := runIllegal w s

/-- ILLEGAL_RSVD_BIT16: highest set bit 16, illegal (44_control_commands.md R242). -/
def execIllegalRsvdBit16 (w : Word) (s : State) : Host.Outcome State Fault Refusal := runIllegal w s

/-- ILLEGAL_RSVD_BIT15: highest set bit 15, illegal (44_control_commands.md R242). -/
def execIllegalRsvdBit15 (w : Word) (s : State) : Host.Outcome State Fault Refusal := runIllegal w s

/-- ILLEGAL_RSVD_BIT14: highest set bit 14, illegal (44_control_commands.md R242). -/
def execIllegalRsvdBit14 (w : Word) (s : State) : Host.Outcome State Fault Refusal := runIllegal w s

/-- ILLEGAL_RSVD_BIT13: highest set bit 13, illegal (44_control_commands.md R242). -/
def execIllegalRsvdBit13 (w : Word) (s : State) : Host.Outcome State Fault Refusal := runIllegal w s

/-- ILLEGAL_RSVD_BIT12: highest set bit 12, illegal (44_control_commands.md R242). -/
def execIllegalRsvdBit12 (w : Word) (s : State) : Host.Outcome State Fault Refusal := runIllegal w s

/-- ILLEGAL_RSVD_BIT11: highest set bit 11, illegal (44_control_commands.md R242). -/
def execIllegalRsvdBit11 (w : Word) (s : State) : Host.Outcome State Fault Refusal := runIllegal w s

/-- ILLEGAL_RSVD_BIT10: highest set bit 10, illegal (44_control_commands.md R242). -/
def execIllegalRsvdBit10 (w : Word) (s : State) : Host.Outcome State Fault Refusal := runIllegal w s

/-- ILLEGAL_RSVD_BIT9: highest set bit 9, illegal (44_control_commands.md R242). -/
def execIllegalRsvdBit9 (w : Word) (s : State) : Host.Outcome State Fault Refusal := runIllegal w s

/-- ILLEGAL_RSVD_BIT8: highest set bit 8, illegal (44_control_commands.md R242). -/
def execIllegalRsvdBit8 (w : Word) (s : State) : Host.Outcome State Fault Refusal := runIllegal w s

end Sys2Proof.Machine
end

