-- ==== Sys2Proof/Machine/Dispatch.lean ====
section
/-! DEFINITION. Execute(cmd, S) and its completion, one arm per row of opcode_table.json (30_encoding.md R99, R100). -/

namespace Sys2Proof.Machine

def exec (i : Instr) (s : State) : Host.Outcome State Fault Refusal :=
  match i with
  | .nop => Sys2Proof.Machine.execNop s
  | .keyExpand => Sys2Proof.Machine.execKeyExpand s
  | .encBlock => Sys2Proof.Machine.execEncBlock s
  | .decBlock => Sys2Proof.Machine.execDecBlock s
  | .igeEncStart => Sys2Proof.Machine.execIgeEncStart s
  | .igeDecStart => Sys2Proof.Machine.execIgeDecStart s
  | .igeStep => Sys2Proof.Machine.execIgeStep s
  | .igeAbort => Sys2Proof.Machine.execIgeAbort s
  | .factorize => Sys2Proof.Machine.execFactorize s
  | .zeroize => Sys2Proof.Machine.execZeroize s
  | .illegalOpcode0A0B w => Sys2Proof.Machine.execIllegalOpcode0A0B w s
  | .illegalOpcode0C0F w => Sys2Proof.Machine.execIllegalOpcode0C0F w s
  | .illegalOpcode101F w => Sys2Proof.Machine.execIllegalOpcode101F w s
  | .illegalOpcode203F w => Sys2Proof.Machine.execIllegalOpcode203F w s
  | .illegalOpcode407F w => Sys2Proof.Machine.execIllegalOpcode407F w s
  | .illegalOpcode80FF w => Sys2Proof.Machine.execIllegalOpcode80FF w s
  | .illegalRsvdBit31 w => Sys2Proof.Machine.execIllegalRsvdBit31 w s
  | .illegalRsvdBit30 w => Sys2Proof.Machine.execIllegalRsvdBit30 w s
  | .illegalRsvdBit29 w => Sys2Proof.Machine.execIllegalRsvdBit29 w s
  | .illegalRsvdBit28 w => Sys2Proof.Machine.execIllegalRsvdBit28 w s
  | .illegalRsvdBit27 w => Sys2Proof.Machine.execIllegalRsvdBit27 w s
  | .illegalRsvdBit26 w => Sys2Proof.Machine.execIllegalRsvdBit26 w s
  | .illegalRsvdBit25 w => Sys2Proof.Machine.execIllegalRsvdBit25 w s
  | .illegalRsvdBit24 w => Sys2Proof.Machine.execIllegalRsvdBit24 w s
  | .illegalRsvdBit23 w => Sys2Proof.Machine.execIllegalRsvdBit23 w s
  | .illegalRsvdBit22 w => Sys2Proof.Machine.execIllegalRsvdBit22 w s
  | .illegalRsvdBit21 w => Sys2Proof.Machine.execIllegalRsvdBit21 w s
  | .illegalRsvdBit20 w => Sys2Proof.Machine.execIllegalRsvdBit20 w s
  | .illegalRsvdBit19 w => Sys2Proof.Machine.execIllegalRsvdBit19 w s
  | .illegalRsvdBit18 w => Sys2Proof.Machine.execIllegalRsvdBit18 w s
  | .illegalRsvdBit17 w => Sys2Proof.Machine.execIllegalRsvdBit17 w s
  | .illegalRsvdBit16 w => Sys2Proof.Machine.execIllegalRsvdBit16 w s
  | .illegalRsvdBit15 w => Sys2Proof.Machine.execIllegalRsvdBit15 w s
  | .illegalRsvdBit14 w => Sys2Proof.Machine.execIllegalRsvdBit14 w s
  | .illegalRsvdBit13 w => Sys2Proof.Machine.execIllegalRsvdBit13 w s
  | .illegalRsvdBit12 w => Sys2Proof.Machine.execIllegalRsvdBit12 w s
  | .illegalRsvdBit11 w => Sys2Proof.Machine.execIllegalRsvdBit11 w s
  | .illegalRsvdBit10 w => Sys2Proof.Machine.execIllegalRsvdBit10 w s
  | .illegalRsvdBit9 w => Sys2Proof.Machine.execIllegalRsvdBit9 w s
  | .illegalRsvdBit8 w => Sys2Proof.Machine.execIllegalRsvdBit8 w s

end Sys2Proof.Machine
end

