-- ==== Sys2Proof/Machine/Step.lean ====
section
/-! DEFINITION. One step of the machine: one host transaction, one sequencer completion or one reset (20_memory.md R72). -/

namespace Sys2Proof.Machine

/-- One step. The sequencer's turn is the completion of the in-flight command, `exec` of it (30_encoding.md R99); with
BUSY = 0 the completion is not enabled and the turn passes (log entry 3). -/
def step (s : State) : Host.Outcome State Fault Refusal :=
  match turnOf s with
  | .host => .next (hostTurn (takeTurn s))
  | .powerOnReset => .next (engineReset (takeTurn s))
  | .sequencer =>
    if s.busy then
      match s.inflight with
      | some f => exec f.cmd (takeTurn s)
      | none => .fault .completionNotEnabled
    else .next (takeTurn s)

/-- The state in which the host has just written the command word of an opcode-table row to CMD and the engine has
accepted it (30_encoding.md R96), with the sequencer's turn next: the machine fetches nothing, it runs the command
INFLIGHT holds (10_state.md R24, log entry 1). -/
def State.withFetchWord (s : State) (nbits w : Nat) : State :=
  { acceptCommand (BitVec.ofNat 32 (w % 2 ^ nbits)) s with schedule := [] }

end Sys2Proof.Machine
end

