-- ==== Sys2Proof/Machine/Host.lean ====
section
/-! DEFINITION. Host programs: the assembly syntax and the pseudo-instructions with their expansions into transactions
(30_encoding.md R101, R102), and the host procedure of an IGE pass (42_ige_commands.md R189). -/

namespace Sys2Proof.Machine

/-- A line of a host program (30_encoding.md R101, R102). -/
inductive Pseudo where
  /-- `WR REG, imm32` -/
  | wr (r : Reg) (v : Word)
  /-- `RD REG -> name`; the value read is the bus's answer -/
  | rd (r : Reg)
  /-- `CMD OPNAME` -/
  | cmd (i : Instr)
  /-- `CMDW imm32`, a raw command word -/
  | cmdw (v : Word)
  /-- `WAIT` -/
  | wait
  /-- `WRKEY b0..b31` -/
  | wrkey (b : Bytes32)
  /-- `WRIV b0..b31` -/
  | wriv (b : Bytes32)
  /-- `WRBLK b0..b15` -/
  | wrblk (b : Block)
  /-- `RDBLK -> name` -/
  | rdblk
  /-- `WRN imm64` -/
  | wrn (n : BitVec 64)
  /-- `EXPECT REG, imm32`: a read, its comparison a test aid outside the bus -/
  | expect (r : Reg) (v : Word)
deriving DecidableEq, Repr

/-- `WR REG, v` as a transaction, (W, off(REG), v) (30_encoding.md R101). -/
def writeOp (r : Reg) (v : Word) : HostOp := .write (regOffset r) 4 v

/-- `RD REG` as a transaction, (R, off(REG)) (30_encoding.md R101). -/
def readOp (r : Reg) : HostOp := .read (regOffset r) 4

/-- The transactions of a line (30_encoding.md R102). -/
def expand : Pseudo → List HostOp
  | .wr r v => [writeOp r v]
  | .rd r => [readOp r]
  | .cmd i => [writeOp .cmd (encode i)]
  | .cmdw v => [writeOp .cmd v]
  | .wait => [.wait]
  | .wrkey b => (index8.map fun k => writeOp (.key k) (packBytes32 b)[k]) ++ [writeOp .keyLen 32]
  | .wriv b => (index8.map fun k => writeOp (.iv k) (packBytes32 b)[k]) ++ [writeOp .ivLen 32]
  | .wrblk b => index4.map fun k => writeOp (.din k) (packBlock b)[k]
  | .rdblk => index4.map fun k => readOp (.dout k)
  | .wrn n => [writeOp .nLo (n.extractLsb' 0 32), writeOp .nHi (n.extractLsb' 32 32)]
  | .expect r _ => [readOp r]

/-- A host program's encoding: its list of transactions (30_encoding.md R101). -/
def assemble (p : List Pseudo) : List HostOp := p.flatMap expand

/-- The host procedure of one pass over `blocks`, with `start` IGE_ENC_START or IGE_DEC_START (42_ige_commands.md
R189). -/
def igeProcedure (start : Instr) (key iv : Bytes32) (blocks : List Block) : List Pseudo :=
  [.wrkey key, .wriv iv, .wr .msgLen (BitVec.ofNat 32 (16 * blocks.length)), .cmd start, .wait] ++
    blocks.flatMap fun b => [.wrblk b, .cmd .igeStep, .wait, .rdblk]

/-- A state whose host runs the program `p` next. -/
def withProgram (p : List Pseudo) (s : State) : State := { s with program := assemble p }

end Sys2Proof.Machine
end

