-- ==== Sys2Proof/Safety.lean ====
section
/-! DEFINITION. What counts as a good state and a good run of TGC-CORE, in the terms the claims use. -/

namespace Sys2Proof.Safety

open Sys2Proof.Machine

/-- The invariants of STATUS (10_state.md R25): BUSY = 1 implies DONE = 0 and ERR = 0; ERR = 1 implies DONE = 1; ERRCODE ≠ 0
iff ERR = 1; SUBCAUSE is 0 when ERR = 0. -/
structure StatusInv (s : State) : Prop where
  busy_clears : s.busy = true → s.done = false ∧ s.err = false
  err_done : s.err = true → s.done = true
  code_iff_err : s.errCode ≠ 0 ↔ s.err = true
  subCause_zero : s.err = false → s.subCause = 0

/-- A recorded error is one of the listed code and sub-cause pairs (60_exceptions.md R251, R252). -/
def ListedErrorInv (s : State) : Prop :=
  s.err = true → ∃ e : CmdError, s.errCode = errCodeOf e ∧ s.subCause = subCauseOf e

/-- INFLIGHT is present exactly when BUSY = 1 (10_state.md R31); it holds a well-formed command whose opcode byte is
LAST_OP (10_state.md R25). -/
structure InflightInv (s : State) : Prop where
  busy_iff : s.busy = true ↔ s.inflight.isSome = true
  wellFormed : ∀ f, s.inflight = some f → f.cmd.wellFormed = true
  lastOp_eq : ∀ f, s.inflight = some f → s.lastOp = opcodeField (encode f.cmd)

/-- The IGE controller's registers (10_state.md R23, R25; 42_ige_commands.md R186; 60_exceptions.md R265): outside a pass
PASS_DIR, CHC, CHP and BLK_REMAIN are 0; inside one there is a schedule and a block to come; the counters stay within
the longest pass. -/
structure PassInv (s : State) : Prop where
  dir_active : s.passDir = true → s.passActive = true
  chc_zero : s.passActive = false → s.chc = Vector.replicate 4 0
  chp_zero : s.passActive = false → s.chp = Vector.replicate 4 0
  remain_zero : s.passActive = false → s.blkRemain = 0
  remain_pos : s.passActive = true → 0 < s.blkRemain.toNat
  schedule_held : s.passActive = true → s.keyValid = true
  length_bound : s.blkRemain.toNat + s.blkDone.toNat ≤ 0x0FFFFFFF

/-- KEY_VALID is 1 exactly when W holds the KeyExpansion of a key; with KEY_VALID = 0 W is 0 (10_state.md R29, R30). -/
structure ScheduleInv (s : State) : Prop where
  valid_expanded : s.keyValid = true → ∃ k : Bytes32, s.w = keyExpansion k
  invalid_zero : s.keyValid = false → s.w = Vector.replicate 60 0

/-- The factorization registers hold a pair of primes p < q or 0 and 0, and the work of one search (10_state.md R22,
43_factorization.md R210, R214). -/
structure FactInv (s : State) : Prop where
  pair_or_zero : (s.factP = 0 ∧ s.factQ = 0) ∨
    (s.factP.toNat < s.factQ.toNat ∧ isPrime s.factP.toNat = true ∧ isPrime s.factQ.toNat = true)
  steps_bound : s.factSteps.toNat ≤ 67110880
  c_bound : s.factC.toNat ≤ 16

/-- The engine's invariant: every part but the factorization registers'. -/
structure EngineInv (s : State) : Prop where
  status : StatusInv s
  listedError : ListedErrorInv s
  inflight : InflightInv s
  pass : PassInv s
  schedule : ScheduleInv s

/-- The in-flight command is `i` with snapshot `S`, so that its completion is enabled (30_encoding.md R99). -/
def InFlightIs (i : Instr) (S : Snapshot) (s : State) : Prop :=
  s.busy = true ∧ s.inflight = some { cmd := i, snap := S }

/-- A completion without error: BUSY 0, DONE 1, DONE_P 1, INFLIGHT none (30_encoding.md R99). -/
def completedOk (s : State) : State :=
  { s with busy := false, done := true, doneP := true, inflight := none }

/-- A completion with error `code` and sub-cause `sub` (30_encoding.md R99). -/
def completedWith (code sub : BitVec 4) (s : State) : State :=
  { s with
    busy := false
    done := true
    doneP := true
    inflight := none
    err := true
    errCode := code
    subCause := sub
    errP := true }

/-- The six rows of unknown opcodes of opcode_table.json (30_encoding.md R93). -/
def unknownOpcodeCtors : List (Word → Instr) :=
  [.illegalOpcode0A0B, .illegalOpcode0C0F, .illegalOpcode101F, .illegalOpcode203F, .illegalOpcode407F, .illegalOpcode80FF]

/-- The 24 rows of reserved bits of opcode_table.json (30_encoding.md R93). -/
def reservedBitsCtors : List (Word → Instr) :=
  [.illegalRsvdBit31, .illegalRsvdBit30, .illegalRsvdBit29, .illegalRsvdBit28, .illegalRsvdBit27, .illegalRsvdBit26,
   .illegalRsvdBit25, .illegalRsvdBit24, .illegalRsvdBit23, .illegalRsvdBit22, .illegalRsvdBit21, .illegalRsvdBit20,
   .illegalRsvdBit19, .illegalRsvdBit18, .illegalRsvdBit17, .illegalRsvdBit16, .illegalRsvdBit15, .illegalRsvdBit14,
   .illegalRsvdBit13, .illegalRsvdBit12, .illegalRsvdBit11, .illegalRsvdBit10, .illegalRsvdBit9, .illegalRsvdBit8]

/-- The reserved offsets 0x0A8, 0x0AC and 0x0C8 to 0x0FC (20_memory.md R64). -/
def ReservedOffset (off : Nat) : Prop := off = 0x0A8 ∨ off = 0x0AC ∨ (0x0C8 ≤ off ∧ off ≤ 0x0FC ∧ off % 4 = 0)

/-- `n` steps, each answering a next state. -/
def runSteps : Nat → State → Option State
  | 0, s => some s
  | n + 1, s =>
    match step s with
    | .next t => runSteps n t
    | .fault _ => none
    | .refused _ => none

/-- A command issued to an idle engine: its word accepted (30_encoding.md R96), then its completion (R99). -/
def issue (i : Instr) (s : State) : Host.Outcome State Fault Refusal := exec i (acceptCommand (encode i) s)

/-- One block of a pass: the host writes it to DIN and issues IGE_STEP (42_ige_commands.md R189). -/
def feedBlock (b : Block) (s : State) : Host.Outcome State Fault Refusal :=
  issue .igeStep { s with din := packBlock b }

/-- The blocks of a pass one after another: the blocks read from DOUT and the state at the end (42_ige_commands.md
R189). -/
def runPass : List Block → State → Option (List Block × State)
  | [], s => some ([], s)
  | b :: bs, s =>
    match feedBlock b s with
    | .next t => (runPass bs t).map fun r => (unpackBlock t.dout :: r.1, r.2)
    | .fault _ => none
    | .refused _ => none

end Sys2Proof.Safety
end

