-- ==== Sys2Proof/Certificates/Slice0/Obligations.lean ====
section
/-! DEFINITION. The statements for the provers: what the rules of the spec say of the model. -/

open Sys2Proof Sys2Proof.Machine Sys2Proof.Safety

/-! ### Command words -/

/-- Decoding what the encoder writes gives the instruction back, for every well-formed instruction
(30_encoding.md R90, R91, R93). -/
def Obligations.DecodeOfEncodeIsIdentity : Prop :=
  ∀ i : Instr, i.wellFormed = true → decode (encode i) = i

/-- The decoder is total, gives a well-formed instruction and drops no bit of the word (30_encoding.md R95). -/
def Obligations.EncodeOfDecodeIsIdentity : Prop :=
  ∀ w : Word, (decode w).wellFormed = true ∧ encode (decode w) = w

/-- The opcode map (30_encoding.md R91): ten opcodes with a mask of 32 ones, six rows for RSVD = 0 and OPCODE 0x0A to
0xFF, 24 rows for RSVD ≠ 0 by the highest set bit 31 down to 8, and every word matches exactly one row of the table. -/
def Obligations.OpcodeMapIsExact : Prop :=
  (encode .nop = 0x00#32 ∧ encode .keyExpand = 0x01#32 ∧ encode .encBlock = 0x02#32 ∧ encode .decBlock = 0x03#32 ∧
    encode .igeEncStart = 0x04#32 ∧ encode .igeDecStart = 0x05#32 ∧ encode .igeStep = 0x06#32 ∧
    encode .igeAbort = 0x07#32 ∧ encode .factorize = 0x08#32 ∧ encode .zeroize = 0x09#32) ∧
  (∀ i ∈ [Instr.nop, .keyExpand, .encBlock, .decBlock, .igeEncStart, .igeDecStart, .igeStep, .igeAbort, .factorize,
      .zeroize], ∀ w : Word, decode w = i ↔ w &&& 0xFFFFFFFF#32 = encode i) ∧
  (opcodeTable.length = 40 ∧ unknownOpcodeRows.length = 6 ∧ reservedBitsRows.length = 24) ∧
  (∀ w : Word, (unknownOpcodeRows.any fun r => r.matchesWord w) = true ↔
      w.extractLsb' 8 24 = 0#24 ∧ 0x0A ≤ (w.extractLsb' 0 8).toNat) ∧
  (∀ (w : Word) (k : Fin 24) (r : OpcodeRow), reservedBitsRows[k.val]? = some r →
      (r.matchesWord w = true ↔ 2 ^ (31 - k.val) ≤ w.toNat ∧ w.toNat < 2 ^ (32 - k.val))) ∧
  (∀ w : Word, opcodeTable.countP (fun r => r.matchesWord w) = 1)

/-- A few words, read off the spec's encoding by hand, decode to the instruction they stand for (30_encoding.md R91,
R93). -/
def Obligations.DecoderReadsSampleWords : Prop :=
  decode 0x00000000#32 = .nop ∧ decode 0x00000002#32 = .encBlock ∧ decode 0x00000006#32 = .igeStep ∧
  decode 0x00000008#32 = .factorize ∧ decode 0x0000000A#32 = .illegalOpcode0A0B 0x0000000A#32 ∧
  decode 0x000000FF#32 = .illegalOpcode80FF 0x000000FF#32 ∧ decode 0x00000109#32 = .illegalRsvdBit8 0x00000109#32 ∧
  decode 0x80000002#32 = .illegalRsvdBit31 0x80000002#32

/-- Illegal words (44_control_commands.md R242, 30_encoding.md R93): which words they are, that each of the 30 rows is
accepted like any other command, and that it completes with ILLEGAL_COMMAND (6), sub-cause 1 for an unknown opcode and 2
for reserved bits, and nothing else changes, in every state. -/
def Obligations.IllegalCommandsExecute : Prop :=
  (∀ w : Word, w.extractLsb' 8 24 ≠ 0#24 → ∃ mk ∈ reservedBitsCtors, decode w = mk w) ∧
  (∀ w : Word, w.extractLsb' 8 24 = 0#24 → 0x0A ≤ (w.extractLsb' 0 8).toNat →
      ∃ mk ∈ unknownOpcodeCtors, decode w = mk w) ∧
  (∀ (w : Word) (s : State), s.busy = false →
      (writeCmd w s).busy = true ∧ (writeCmd w s).lastOp = w.extractLsb' 0 8 ∧
      (writeCmd w s).inflight = some { cmd := decode w, snap := snapshot s }) ∧
  (∀ mk ∈ [Instr.illegalOpcode0A0B, .illegalOpcode0C0F, .illegalOpcode101F, .illegalOpcode203F, .illegalOpcode407F,
      .illegalOpcode80FF], ∀ (w : Word) (S : Snapshot) (s : State), (mk w).wellFormed = true → InFlightIs (mk w) S s →
      exec (mk w) s = .next (completedWith 6 1 s)) ∧
  (∀ mk ∈ [Instr.illegalRsvdBit31, .illegalRsvdBit30, .illegalRsvdBit29, .illegalRsvdBit28, .illegalRsvdBit27,
      .illegalRsvdBit26, .illegalRsvdBit25, .illegalRsvdBit24, .illegalRsvdBit23, .illegalRsvdBit22, .illegalRsvdBit21,
      .illegalRsvdBit20, .illegalRsvdBit19, .illegalRsvdBit18, .illegalRsvdBit17, .illegalRsvdBit16, .illegalRsvdBit15,
      .illegalRsvdBit14, .illegalRsvdBit13, .illegalRsvdBit12, .illegalRsvdBit11, .illegalRsvdBit10, .illegalRsvdBit9,
      .illegalRsvdBit8], ∀ (w : Word) (S : Snapshot) (s : State), (mk w).wellFormed = true → InFlightIs (mk w) S s →
      exec (mk w) s = .next (completedWith 6 2 s))

/-! ### The lifecycle of a command -/

/-- Acceptance (30_encoding.md R96): a CMD write with BUSY = 0 sets LAST_OP, clears DONE, ERR, ERRCODE and SUBCAUSE, puts
the decoded command with the snapshot in flight, sets BUSY, and changes no other state. -/
def Obligations.CmdWriteIsAcceptedWhenIdle : Prop :=
  ∀ (v : Word) (s : State), s.busy = false →
    hostWrite 0x008 4 v s =
      { s with
        lastOp := v.extractLsb' 0 8
        done := false
        err := false
        errCode := 0
        subCause := 0
        inflight := some { cmd := decode v, snap := snapshot s }
        busy := true }

/-- Overrun (30_encoding.md R97): a CMD write with BUSY = 1 is dropped, sets OVR_P and changes nothing else; it is no bus
error. -/
def Obligations.CmdWriteIsDroppedWhenBusy : Prop :=
  ∀ (v : Word) (s : State), s.busy = true →
    hostWrite 0x008 4 v s = { s with ovrP := true } ∧ hostWriteResponse 0x008 4 = .written

/-- The snapshot (30_encoding.md R98): the operand registers' bytes and words in the accepting step, and no later host
write to an operand register changes it. -/
def Obligations.SnapshotCopiesOperandRegisters : Prop :=
  (∀ (s : State) (j : Fin 32),
    (snapshot s).key[j] = (s.key[j.val / 4]).extractLsb' (8 * (j.val % 4)) 8 ∧
    (snapshot s).iv[j] = (s.iv[j.val / 4]).extractLsb' (8 * (j.val % 4)) 8) ∧
  (∀ (s : State) (j : Fin 16), (snapshot s).din[j] = (s.din[j.val / 4]).extractLsb' (8 * (j.val % 4)) 8) ∧
  (∀ s : State, (snapshot s).keyLen = s.keyLen ∧ (snapshot s).ivLen = s.ivLen ∧ (snapshot s).msgLen = s.msgLen ∧
    (snapshot s).n.toNat = s.nHi.toNat * 2 ^ 32 + s.nLo.toNat) ∧
  (∀ (r : Reg) (v : Word) (s : State), r ∈ [Reg.keyLen, .ivLen, .msgLen, .nLo, .nHi] ∨ (∃ k, r = .key k) ∨
    (∃ k, r = .iv k) ∨ (∃ k, r = .din k) → (writeReg r v s).inflight = s.inflight)

/-- Completion (30_encoding.md R99): it is enabled exactly when BUSY = 1 with its command in flight; then EVERY command
completes, with BUSY 0, DONE 1, DONE_P 1 and INFLIGHT none, and either leaves ERR, ERRCODE, SUBCAUSE and ERR_P as they
were or sets them to an error of the list. That exec answers the fault completionNotEnabled where the completion is not enabled
is the model's choice (log entry 8). -/
def Obligations.EveryCommandCompletes : Prop :=
  (∀ (i : Instr) (s : State), s.busy = false → exec i s = .fault .completionNotEnabled) ∧
  (∀ (i : Instr) (S : Snapshot) (s : State), InFlightIs i S s →
    ∃ t, exec i s = .next t ∧ t.busy = false ∧ t.done = true ∧ t.doneP = true ∧ t.inflight = none ∧
      ((t.err = s.err ∧ t.errCode = s.errCode ∧ t.subCause = s.subCause ∧ t.errP = s.errP) ∨
        (t.err = true ∧ t.errP = true ∧ ∃ e : CmdError, t.errCode = errCodeOf e ∧ t.subCause = subCauseOf e)))

/-- Errors are precise (60_exceptions.md R250): a command that completes with an error changes only the completion fields,
and FACT_P, FACT_Q, FACT_STEPS, FACT_C for FACTORIZE, the first two of which become 0; the next CMD write is accepted. -/
def Obligations.ErrorCompletionsArePrecise : Prop :=
  ∀ (i : Instr) (S : Snapshot) (s t : State), InFlightIs i S s → s.err = false → exec i s = .next t → t.err = true →
    (i ≠ .factorize → t = completedWith t.errCode t.subCause s) ∧
    (i = .factorize → t = completedWith t.errCode t.subCause
      { s with factP := 0, factQ := 0, factSteps := t.factSteps, factC := t.factC }) ∧
    ∀ v : Word, hostWrite 0x008 4 v t = acceptCommand v t

/-- What no command writes (10_state.md R21, R26, R29, R36; 41_block_commands.md R163): the operand registers but by
ZEROIZE, W and KEY_VALID but by KEY_EXPAND, the pass starts and ZEROIZE, DOUT but by the three block commands and ZEROIZE,
the FACT registers but by FACTORIZE and ZEROIZE, and IRQ_EN, OVR_P, LAST_OP and the host's own state at all. -/
def Obligations.CommandsLeaveOtherStateAlone : Prop :=
  ∀ (i : Instr) (S : Snapshot) (s t : State), InFlightIs i S s → exec i s = .next t →
    (i ≠ .zeroize → t.key = s.key ∧ t.keyLen = s.keyLen ∧ t.iv = s.iv ∧ t.ivLen = s.ivLen ∧ t.msgLen = s.msgLen ∧
      t.din = s.din ∧ t.nLo = s.nLo ∧ t.nHi = s.nHi) ∧
    (i ∉ [Instr.keyExpand, .igeEncStart, .igeDecStart, .zeroize] → t.w = s.w ∧ t.keyValid = s.keyValid) ∧
    (i ∉ [Instr.encBlock, .decBlock, .igeStep, .zeroize] → t.dout = s.dout) ∧
    (i ∉ [Instr.factorize, .zeroize] →
      t.factP = s.factP ∧ t.factQ = s.factQ ∧ t.factSteps = s.factSteps ∧ t.factC = s.factC) ∧
    (i ∉ [Instr.igeEncStart, .igeDecStart, .igeStep, .igeAbort, .zeroize] →
      t.chc = s.chc ∧ t.chp = s.chp ∧ t.blkRemain = s.blkRemain ∧ t.blkDone = s.blkDone ∧
      t.passActive = s.passActive ∧ t.passDir = s.passDir) ∧
    (t.irqEn = s.irqEn ∧ t.ovrP = s.ovrP ∧ t.lastOp = s.lastOp ∧ t.program = s.program ∧ t.schedule = s.schedule ∧
      t.resp = s.resp)

/-! ### Steps -/

/-- The sequencer's turn runs the in-flight command (30_encoding.md R99, 20_memory.md R72): step is exec of it at the same
state with this turn taken off the schedule; with nothing scheduled a command in flight is completed next (the model's
default, log entry 2). -/
def Obligations.StepRunsTheInflightCommand : Prop :=
  ∀ (s : State) (f : InFlight), s.busy = true → s.inflight = some f →
    (∀ rest, s.schedule = .sequencer :: rest → step s = exec f.cmd { s with schedule := rest }) ∧
    (s.schedule = [] → step s = exec f.cmd s)

/-- The instruction the decoder reads from a command word is the one the next step runs (the model's loading function,
log entry 1). -/
def Obligations.StepRunsTheFetchedWord : Prop :=
  ∀ (s : State) (nbits w : Nat) (i : Instr), decodeTableWord nbits w = some i →
    InFlightIs i (snapshot s) (s.withFetchWord nbits w) ∧
    step (s.withFetchWord nbits w) = exec i (s.withFetchWord nbits w)

/-- A command reaches its execution through the host's CMD write (30_encoding.md R96, R99): with nothing scheduled the
write is one step, which accepts the word, and the next step runs the decoded command. That the completion comes at once
is the model's default (log entry 2); the host's program as data is the model's (log entry 1). -/
def Obligations.CmdWriteThenCompletionAreTwoSteps : Prop :=
  ∀ (s : State) (v : Word) (rest : List HostOp), s.busy = false → s.schedule = [] →
    s.program = .write 0x008 4 v :: rest →
    ∃ t, step s = .next t ∧ t = { acceptCommand v { s with program := rest } with resp := .written } ∧
      InFlightIs (decode v) (snapshot s) t ∧ step t = exec (decode v) t

/-- A host read is one step that changes no engine state (20_memory.md R71, R72): it returns the register's value on the
bus, and that value, for every read-only and every readable data register, is the very field the register is
(10_state.md R22, R23, R28; 20_memory.md R61, R63). The host's program, the schedule and the bus's answer are the model's
own fields (log entries 1, 2, 6). -/
def Obligations.HostReadStepHasNoSideEffect : Prop :=
  (∀ (s : State) (off size : Nat) (rest : List HostOp) (turns : List Turn), s.schedule = .host :: turns →
    s.program = .read off size :: rest →
    step s = .next { s with schedule := turns, program := rest, resp := hostRead off size s }) ∧
  (∀ s : State,
    (hostRead 0x000 4 s = .data 0x54474331#32 ∧ hostRead 0x0A0 4 s = .data s.blkRemain ∧
      hostRead 0x0A4 4 s = .data s.blkDone ∧ hostRead 0x0B8 4 s = .data s.factP ∧ hostRead 0x0BC 4 s = .data s.factQ ∧
      hostRead 0x0C0 4 s = .data s.factSteps ∧ hostRead 0x0C4 4 s = .data s.factC) ∧
    (∀ k : Fin 4, hostRead (0x070 + 4 * k.val) 4 s = .data s.dout[k] ∧ hostRead (0x080 + 4 * k.val) 4 s = .data s.chc[k] ∧
      hostRead (0x090 + 4 * k.val) 4 s = .data s.chp[k]) ∧
    (hostRead 0x014 4 s = .data s.keyLen ∧ hostRead 0x018 4 s = .data s.ivLen ∧ hostRead 0x01C 4 s = .data s.msgLen ∧
      hostRead 0x0B0 4 s = .data s.nLo ∧ hostRead 0x0B4 4 s = .data s.nHi) ∧
    (∀ k : Fin 8, hostRead (0x040 + 4 * k.val) 4 s = .data s.iv[k]) ∧
    (∀ k : Fin 4, hostRead (0x060 + 4 * k.val) 4 s = .data s.din[k]))

/-- WAIT (30_encoding.md R102) reads STATUS and goes on exactly at the first read that shows BUSY = 0; as one
polling operation of the host it is the model's (log entry 12). -/
def Obligations.WaitPollsUntilIdle : Prop :=
  ∀ (s : State) (rest : List HostOp) (turns : List Turn), s.schedule = .host :: turns → s.program = .wait :: rest →
    (s.busy = true → step s = .next { s with schedule := turns, resp := .data (statusWord s) }) ∧
    (s.busy = false → step s = .next { s with schedule := turns, program := rest, resp := .data (statusWord s) })

/-- An idle engine holds its state indefinitely (60_exceptions.md R269): with no host operation and no turn scheduled, any
number of steps leave the whole state as it is. That such a step exists at all is the model's choice (log entry 3). -/
def Obligations.IdleEngineHoldsItsState : Prop :=
  ∀ (s : State) (n : Nat), s.busy = false → s.program = [] → s.schedule = [] → runSteps n s = some s

/-! ### Host transactions -/

/-- A malformed access (20_memory.md R62, R255): another size than 4 bytes, an offset that is no multiple of 4 or lies
outside the window, raises BusError at the address and changes no state. The
answer's form and sizes as numbers of bytes are the model's (log entries 5, 6, 7). -/
def Obligations.MalformedAccessesRaiseBusError : Prop :=
  ∀ (off size : Nat) (v : Word) (s : State), size ≠ 4 ∨ off % 4 ≠ 0 ∨ 0x100 ≤ off →
    hostRead off size s = .busError off ∧ hostWriteResponse off size = .busError off ∧ hostWrite off size v s = s ∧
    busErrorAddress (.busError off) = some (Config.engineBase + off)

/-- A reserved offset (20_memory.md R64): a read or a write raises BusError and changes no state, STATUS and IRQ_STATUS
bits among it. -/
def Obligations.ReservedOffsetsRaiseBusError : Prop :=
  ∀ (off : Nat) (v : Word) (s : State), ReservedOffset off →
    hostRead off 4 s = .busError off ∧ hostWriteResponse off 4 = .busError off ∧ hostWrite off 4 v s = s

/-- The register map (20_memory.md R61): every register's offset as the table gives it, found there and only there, and
every aligned offset of the window that is not reserved holds exactly one register. -/
def Obligations.RegisterMapIsExact : Prop :=
  (regAt 0x000 = some .id ∧ regAt 0x004 = some .ctrl ∧ regAt 0x008 = some .cmd ∧ regAt 0x00C = some .status ∧
    regAt 0x010 = some .irqStatus ∧ regAt 0x014 = some .keyLen ∧ regAt 0x018 = some .ivLen ∧
    regAt 0x01C = some .msgLen ∧ regAt 0x0A0 = some .blkRemain ∧ regAt 0x0A4 = some .blkDone ∧
    regAt 0x0B0 = some .nLo ∧ regAt 0x0B4 = some .nHi ∧ regAt 0x0B8 = some .factP ∧ regAt 0x0BC = some .factQ ∧
    regAt 0x0C0 = some .factSteps ∧ regAt 0x0C4 = some .factC) ∧
  (∀ k : Fin 8, regAt (0x020 + 4 * k.val) = some (.key k) ∧ regAt (0x040 + 4 * k.val) = some (.iv k)) ∧
  (∀ k : Fin 4, regAt (0x060 + 4 * k.val) = some (.din k) ∧ regAt (0x070 + 4 * k.val) = some (.dout k) ∧
    regAt (0x080 + 4 * k.val) = some (.chc k) ∧ regAt (0x090 + 4 * k.val) = some (.chp k)) ∧
  (∀ (off : Nat) (r : Reg), regAt off = some r ↔ regOffset r = off) ∧
  (∀ off : Nat, (regAt off).isSome = true ↔ off % 4 = 0 ∧ off < 0x100 ∧ ¬ReservedOffset off)

/-- A write to a read-only register raises BusError and changes no state (20_memory.md R65). -/
def Obligations.ReadOnlyWritesRaiseBusError : Prop :=
  ∀ (r : Reg) (v : Word) (s : State),
    r ∈ [Reg.id, .status, .blkRemain, .blkDone, .factP, .factQ, .factSteps, .factC] ∨ (∃ k, r = .dout k) ∨
      (∃ k, r = .chc k) ∨ (∃ k, r = .chp k) →
    hostWriteResponse (regOffset r) 4 = .busError (regOffset r) ∧ hostWrite (regOffset r) 4 v s = s

/-- A read of CMD or of KEY0..KEY7 returns 0 and has no side effect (20_memory.md R66): the host's step changes only the
host's own program, the schedule and the bus's answer, which are the model's own fields (log entries 1, 2, 6). -/
def Obligations.WriteOnlyRegistersReadZero : Prop :=
  ∀ (s : State) (off : Nat), off = 0x008 ∨ (∃ k : Fin 8, off = 0x020 + 4 * k.val) →
    hostRead off 4 s = .data 0 ∧
    ∀ (rest : List HostOp) (turns : List Turn), s.schedule = .host :: turns → s.program = .read off 4 :: rest →
      step s = .next { s with schedule := turns, program := rest, resp := .data 0 }

/-- The data registers (20_memory.md R63, 10_state.md R21): a write stores all 32 bits in the one register at its offset and
changes no other field of the state, KEY0..KEY7 included, is no bus error, and the next read of a readable one returns the
value. -/
def Obligations.DataRegistersStoreAllBits : Prop :=
  (∀ (v : Word) (s : State),
    hostWrite 0x014 4 v s = { s with keyLen := v } ∧ hostWrite 0x018 4 v s = { s with ivLen := v } ∧
    hostWrite 0x01C 4 v s = { s with msgLen := v } ∧ hostWrite 0x0B0 4 v s = { s with nLo := v } ∧
    hostWrite 0x0B4 4 v s = { s with nHi := v } ∧
    (∀ k : Fin 8, hostWrite (0x020 + 4 * k.val) 4 v s = { s with key := s.key.set k v } ∧
      hostWrite (0x040 + 4 * k.val) 4 v s = { s with iv := s.iv.set k v }) ∧
    (∀ k : Fin 4, hostWrite (0x060 + 4 * k.val) 4 v s = { s with din := s.din.set k v })) ∧
  (∀ (r : Reg) (v : Word) (s : State),
    r ∈ [Reg.keyLen, .ivLen, .msgLen, .nLo, .nHi] ∨ (∃ k, r = .iv k) ∨ (∃ k, r = .din k) →
    hostWriteResponse (regOffset r) 4 = .written ∧
    hostRead (regOffset r) 4 (hostWrite (regOffset r) 4 v s) = .data v ∧
    ∀ r', r' ≠ r → readReg (hostWrite (regOffset r) 4 v s) r' = readReg s r') ∧
  (∀ k : Fin 8, hostWriteResponse (0x020 + 4 * k.val) 4 = .written)

/-- Key material cannot be read back (10_state.md R21, R29; 60_exceptions.md R268): no host read depends on KEY or W. -/
def Obligations.KeyMaterialIsUnreadable : Prop :=
  ∀ (s : State) (key : Vector Word 8) (w : Schedule) (off size : Nat),
    hostRead off size { s with key := key, w := w } = hostRead off size s

/-- CTRL (10_state.md R26): a write with SRST = 1 resets and discards its IRQ_EN bit, one with SRST = 0 stores bit 0 into
IRQ_EN and nothing else; a read shows IRQ_EN in bit 0 and 0 elsewhere; with BUSY = 1 too; IRQ_EN is 0 at reset. -/
def Obligations.CtrlWritesResetOrSetIrqEn : Prop :=
  State.reset.irqEn = false ∧
  ∀ (v : Word) (s : State),
    (v.getLsbD 1 = true → hostWrite 0x004 4 v s = engineReset s ∧ (hostWrite 0x004 4 v s).irqEn = false) ∧
    (v.getLsbD 1 = false → hostWrite 0x004 4 v s = { s with irqEn := v.getLsbD 0 }) ∧
    hostRead 0x004 4 s = .data (if s.irqEn then 1#32 else 0#32)

/-- IRQ_STATUS (10_state.md R27, 60_exceptions.md R259): a write clears each of the three bits written 1, leaves each
written 0 and changes nothing else; a read shows them in bits 0 to 2 and 0 elsewhere. -/
def Obligations.IrqStatusWritesClearOnes : Prop :=
  ∀ (v : Word) (s : State),
    hostWrite 0x010 4 v s =
      { s with
        doneP := if v.getLsbD 0 then false else s.doneP
        errP := if v.getLsbD 1 then false else s.errP
        ovrP := if v.getLsbD 2 then false else s.ovrP } ∧
    hostRead 0x010 4 s =
      .data ((if s.doneP then 1#32 else 0#32) + (if s.errP then 2#32 else 0#32) + (if s.ovrP then 4#32 else 0#32))

/-- The fields of STATUS as the host reads them (10_state.md R25, 20_memory.md R67). -/
def Obligations.StatusShowsItsFields : Prop :=
  ∀ s : State, hostRead 0x00C 4 s = .data (statusWord s) ∧
    (statusWord s).getLsbD 0 = s.busy ∧ (statusWord s).getLsbD 1 = s.done ∧ (statusWord s).getLsbD 2 = s.err ∧
    (statusWord s).getLsbD 3 = s.keyValid ∧ (statusWord s).getLsbD 4 = s.passActive ∧
    (statusWord s).getLsbD 5 = s.passDir ∧ (statusWord s).extractLsb' 6 2 = 0#2 ∧
    (statusWord s).extractLsb' 8 4 = s.errCode ∧ (statusWord s).extractLsb' 12 4 = s.subCause ∧
    (statusWord s).extractLsb' 16 8 = s.lastOp ∧ (statusWord s).extractLsb' 24 8 = 0#8

/-- The interrupt line (60_exceptions.md R258): high exactly when IRQ_EN and a pending bit are 1; not connected with
IRQ_PRESENT = 0. -/
def Obligations.InterruptLineIsALevel : Prop :=
  ∀ s : State,
    (irqLine s = true ↔ s.irqEn = true ∧ (s.doneP = true ∨ s.errP = true ∨ s.ovrP = true)) ∧
    irqLineWith false s = false

/-- The pseudo-instructions (30_encoding.md R101, R102). WR, RD, CMD, CMDW, WAIT and EXPECT are one operation each. With an
idle engine and nothing scheduled, WRKEY leaves the key's bytes in KEY0..KEY7 and 32 in KEY_LEN, WRIV the IV's in IV0..IV7
and 32 in IV_LEN, WRBLK the block's in DIN0..DIN3, WRN the halves of n in N_LO and N_HI, so that a snapshot holds exactly
these operands (20_memory.md R68, R69); the four answers of RDBLK are DOUT0..DOUT3. Program, schedule, answers and the
default schedule are the model's (log entries 1, 2, 6), WAIT as one operation is too (log entry 12). -/
def Obligations.WrkeyLoadsTheKey : Prop :=
  (∀ (r : Reg) (v : Word) (i : Instr),
    assemble [.wr r v] = [.write (regOffset r) 4 v] ∧ assemble [.rd r] = [.read (regOffset r) 4] ∧
    assemble [.cmd i] = [.write 0x008 4 (encode i)] ∧ assemble [.cmdw v] = [.write 0x008 4 v] ∧
    assemble [.wait] = [.wait] ∧ assemble [.expect r v] = [.read (regOffset r) 4]) ∧
  (∀ s : State, s.busy = false → s.schedule = [] →
    (∀ b : Bytes32,
      runSteps 9 (withProgram [.wrkey b] s) =
        some { s with key := packBytes32 b, keyLen := 32, program := [], resp := .written } ∧
      (snapshot { s with key := packBytes32 b }).key = b) ∧
    (∀ b : Bytes32,
      runSteps 9 (withProgram [.wriv b] s) =
        some { s with iv := packBytes32 b, ivLen := 32, program := [], resp := .written } ∧
      (snapshot { s with iv := packBytes32 b }).iv = b) ∧
    (∀ b : Block,
      runSteps 4 (withProgram [.wrblk b] s) = some { s with din := packBlock b, program := [], resp := .written } ∧
      (snapshot { s with din := packBlock b }).din = b) ∧
    (∀ n : BitVec 64,
      runSteps 2 (withProgram [.wrn n] s) =
        some { s with nLo := n.extractLsb' 0 32, nHi := n.extractLsb' 32 32, program := [], resp := .written } ∧
      (snapshot { s with nLo := n.extractLsb' 0 32, nHi := n.extractLsb' 32 32 }).n = n) ∧
    (∀ k : Fin 4, runSteps (k.val + 1) (withProgram [.rdblk] s) =
      some { s with program := (assemble [.rdblk]).drop (k.val + 1), resp := .data s.dout[k] }))

/-- Packing (20_memory.md R68): little-endian in each register, and unpacking undoes it, for blocks and for 32-byte
strings. -/
def Obligations.PackingIsLittleEndianAndExact : Prop :=
  (∀ (b : Block) (k : Fin 4), ((packBlock b)[k]).toNat =
    (b[4 * k.val]).toNat + 2 ^ 8 * (b[4 * k.val + 1]).toNat + 2 ^ 16 * (b[4 * k.val + 2]).toNat +
      2 ^ 24 * (b[4 * k.val + 3]).toNat) ∧
  (∀ (b : Bytes32) (k : Fin 8), ((packBytes32 b)[k]).toNat =
    (b[4 * k.val]).toNat + 2 ^ 8 * (b[4 * k.val + 1]).toNat + 2 ^ 16 * (b[4 * k.val + 2]).toNat +
      2 ^ 24 * (b[4 * k.val + 3]).toNat) ∧
  (∀ b : Block, unpackBlock (packBlock b) = b) ∧ (∀ x : Vector Word 4, packBlock (unpackBlock x) = x) ∧
  (∀ b : Bytes32, unpackBytes32 (packBytes32 b) = b) ∧ (∀ x : Vector Word 8, packBytes32 (unpackBytes32 x) = x)

/-! ### Reset -/

/-- Reset (70_reset_and_hazards.md R280, R281): the power-on reset step and the SRST write both set every field of the
engine to its reset value, whatever it held, so that the interrupt line is low and the next CMD write is
accepted. That the model's own fields (host program, schedule, bus answer) stay is its choice (log entry 9). -/
def Obligations.ResetClearsEveryField : Prop :=
  ∀ s : State,
    engineReset s =
      { key := Vector.replicate 8 0, keyLen := 0, iv := Vector.replicate 8 0, ivLen := 0, msgLen := 0,
        din := Vector.replicate 4 0, nLo := 0, nHi := 0, dout := Vector.replicate 4 0, factP := 0, factQ := 0,
        factSteps := 0, factC := 0, chc := Vector.replicate 4 0, chp := Vector.replicate 4 0, blkRemain := 0,
        blkDone := 0, passActive := false, passDir := false, w := Vector.replicate 60 0, keyValid := false,
        irqEn := false, doneP := false, errP := false, ovrP := false, busy := false, done := false, err := false,
        errCode := 0, subCause := 0, lastOp := 0, inflight := none, program := s.program, schedule := s.schedule,
        resp := s.resp } ∧
    (∀ turns, s.schedule = .powerOnReset :: turns → step s = .next (engineReset { s with schedule := turns })) ∧
    (∀ v : Word, v.getLsbD 1 = true →
      hostWrite 0x004 4 v s = engineReset s ∧ hostWriteResponse 0x004 4 = .written) ∧
    irqLine (engineReset s) = false ∧ ∀ v : Word, hostWrite 0x008 4 v (engineReset s) = acceptCommand v (engineReset s)

/-- A reset step while BUSY = 1, soft or power-on, abandons the command in flight (70_reset_and_hazards.md R282): nothing
is in flight, there is no completion and no interrupt, STATUS reads 0, and no register holds a result of it. -/
def Obligations.ResetWhileBusyAbandonsTheCommand : Prop :=
  ∀ s t : State, s.busy = true →
    (∃ v : Word, v.getLsbD 1 = true ∧ t = hostWrite 0x004 4 v s) ∨
      (∃ turns, s.schedule = .powerOnReset :: turns ∧ step s = .next t) →
    t.busy = false ∧ t.inflight = none ∧ t.done = false ∧ t.doneP = false ∧ t.errP = false ∧ t.lastOp = 0 ∧
    hostRead 0x00C 4 t = .data 0 ∧ irqLine t = false ∧ t.dout = Vector.replicate 4 0 ∧ t.factP = 0 ∧ t.factQ = 0 ∧
    t.factSteps = 0 ∧ t.factC = 0 ∧ t.w = Vector.replicate 60 0 ∧ t.keyValid = false ∧ t.passActive = false ∧
    t.chc = Vector.replicate 4 0 ∧ t.chp = Vector.replicate 4 0 ∧ t.blkRemain = 0 ∧ t.blkDone = 0

/-- The reset state (10_state.md R35): every field at the value of the table, and the reads of ID, STATUS, IRQ_STATUS and
CTRL right after reset. -/
def Obligations.ResetStateHoldsTheTable : Prop :=
  let s := State.reset
  (s.key = Vector.replicate 8 0 ∧ s.keyLen = 0 ∧ s.iv = Vector.replicate 8 0 ∧ s.ivLen = 0 ∧ s.msgLen = 0 ∧
    s.din = Vector.replicate 4 0 ∧ s.nLo = 0 ∧ s.nHi = 0) ∧
  (s.dout = Vector.replicate 4 0 ∧ s.factP = 0 ∧ s.factQ = 0 ∧ s.factSteps = 0 ∧ s.factC = 0) ∧
  (s.chc = Vector.replicate 4 0 ∧ s.chp = Vector.replicate 4 0 ∧ s.blkRemain = 0 ∧ s.blkDone = 0) ∧
  (s.passActive = false ∧ s.passDir = false ∧ s.w = Vector.replicate 60 0 ∧ s.keyValid = false) ∧
  (s.irqEn = false ∧ s.doneP = false ∧ s.errP = false ∧ s.ovrP = false) ∧
  (s.busy = false ∧ s.done = false ∧ s.err = false ∧ s.errCode = 0 ∧ s.subCause = 0 ∧ s.lastOp = 0 ∧
    s.inflight = none) ∧
  (hostRead 0x000 4 s = .data 0x54474331#32 ∧ hostRead 0x00C 4 s = .data 0 ∧ hostRead 0x010 4 s = .data 0 ∧
    hostRead 0x004 4 s = .data 0)

/-! ### The control and block commands -/

/-- NOP (44_control_commands.md R240): completes without error in every state, changes nothing but the completion fields;
its word is 0x00000000, acceptance clears DONE, ERR, ERRCODE and SUBCAUSE and sets LAST_OP = 0x00, and 0x00000100 is no
NOP but an illegal word that completes with 6/2. -/
def Obligations.NopExecutes : Prop :=
  decode 0x00000000#32 = .nop ∧
  (decode 0x00000100#32 = .illegalRsvdBit8 0x00000100#32 ∧ ∀ (S : Snapshot) (s : State),
    InFlightIs (.illegalRsvdBit8 0x00000100#32) S s →
    exec (.illegalRsvdBit8 0x00000100#32) s = .next (completedWith 6 2 s)) ∧
  (∀ s : State, s.busy = false →
    (writeCmd 0x00000000#32 s).done = false ∧ (writeCmd 0x00000000#32 s).err = false ∧
    (writeCmd 0x00000000#32 s).errCode = 0 ∧ (writeCmd 0x00000000#32 s).subCause = 0 ∧
    (writeCmd 0x00000000#32 s).lastOp = 0) ∧
  (∀ (S : Snapshot) (s : State), InFlightIs .nop S s → exec .nop s = .next (completedOk s))

/-- ZEROIZE (44_control_commands.md R241): completes without error in every state and clears every operand, result, key,
schedule and pass register, whatever the snapshot; CTRL, IRQ_STATUS's ERR_P and OVR_P and LAST_OP stay. -/
def Obligations.ZeroizeExecutes : Prop :=
  decode 0x00000009#32 = .zeroize ∧
  ∀ (S : Snapshot) (s : State), InFlightIs .zeroize S s →
    exec .zeroize s = .next (completedOk
      { s with
        key := Vector.replicate 8 0, keyLen := 0, w := Vector.replicate 60 0, keyValid := false
        iv := Vector.replicate 8 0, ivLen := 0, msgLen := 0
        din := Vector.replicate 4 0, dout := Vector.replicate 4 0
        chc := Vector.replicate 4 0, chp := Vector.replicate 4 0
        passActive := false, passDir := false, blkRemain := 0, blkDone := 0
        nLo := 0, nHi := 0, factP := 0, factQ := 0, factSteps := 0, factC := 0 })

/-- KEY_EXPAND (41_block_commands.md R160): PASS_IN_PROGRESS, then INVALID_KEY_LENGTH, else the schedule of the latched
key and KEY_VALID; nothing else changes. -/
def Obligations.KeyExpandExecutes : Prop :=
  decode 0x00000001#32 = .keyExpand ∧
  ∀ (S : Snapshot) (s : State), InFlightIs .keyExpand S s →
    (s.passActive = true → exec .keyExpand s = .next (completedWith 9 0 s)) ∧
    (s.passActive = false → S.keyLen ≠ 32 → exec .keyExpand s = .next (completedWith 1 0 s)) ∧
    (s.passActive = false → S.keyLen = 32 →
      exec .keyExpand s = .next (completedOk { s with w := keyExpansion S.key, keyValid := true }))

/-- ENC_BLOCK (41_block_commands.md R161): PASS_IN_PROGRESS, then KEY_NOT_VALID, else DOUT is the cipher of the latched
block under W; nothing else changes. -/
def Obligations.EncBlockExecutes : Prop :=
  decode 0x00000002#32 = .encBlock ∧
  ∀ (S : Snapshot) (s : State), InFlightIs .encBlock S s →
    (s.passActive = true → exec .encBlock s = .next (completedWith 9 0 s)) ∧
    (s.passActive = false → s.keyValid = false → exec .encBlock s = .next (completedWith 7 0 s)) ∧
    (s.passActive = false → s.keyValid = true →
      exec .encBlock s = .next (completedOk { s with dout := packBlock (cipher s.w S.din) }))

/-- DEC_BLOCK (41_block_commands.md R162): the same checks, else DOUT is the inverse cipher of the latched block; nothing
else changes. -/
def Obligations.DecBlockExecutes : Prop :=
  decode 0x00000003#32 = .decBlock ∧
  ∀ (S : Snapshot) (s : State), InFlightIs .decBlock S s →
    (s.passActive = true → exec .decBlock s = .next (completedWith 9 0 s)) ∧
    (s.passActive = false → s.keyValid = false → exec .decBlock s = .next (completedWith 7 0 s)) ∧
    (s.passActive = false → s.keyValid = true →
      exec .decBlock s = .next (completedOk { s with dout := packBlock (invCipher s.w S.din) }))

/-! ### The IGE commands -/

/-- IGE_ENC_START (42_ige_commands.md R183): the five checks in order, else the schedule, the chaining state from the two
halves of the IV, the counters and PASS_ACTIVE with PASS_DIR 0; nothing else changes. -/
def Obligations.IgeEncStartExecutes : Prop :=
  decode 0x00000004#32 = .igeEncStart ∧
  ∀ (S : Snapshot) (s : State), InFlightIs .igeEncStart S s →
    (s.passActive = true → exec .igeEncStart s = .next (completedWith 9 0 s)) ∧
    (s.passActive = false → S.keyLen ≠ 32 → exec .igeEncStart s = .next (completedWith 1 0 s)) ∧
    (s.passActive = false → S.keyLen = 32 → S.ivLen ≠ 32 → exec .igeEncStart s = .next (completedWith 2 0 s)) ∧
    (s.passActive = false → S.keyLen = 32 → S.ivLen = 32 → S.msgLen.toNat % 16 ≠ 0 →
      exec .igeEncStart s = .next (completedWith 3 1 s)) ∧
    (s.passActive = false → S.keyLen = 32 → S.ivLen = 32 → S.msgLen = 0 →
      exec .igeEncStart s = .next (completedWith 3 2 s)) ∧
    (s.passActive = false → S.keyLen = 32 → S.ivLen = 32 → S.msgLen.toNat % 16 = 0 → S.msgLen ≠ 0 →
      exec .igeEncStart s = .next (completedOk
        { s with
          w := keyExpansion S.key, keyValid := true
          chc := packBlock (Vector.ofFn fun j : Fin 16 => S.iv[j.val])
          chp := packBlock (Vector.ofFn fun j : Fin 16 => S.iv[16 + j.val])
          blkRemain := BitVec.ofNat 32 (S.msgLen.toNat / 16), blkDone := 0
          passActive := true, passDir := false }))

/-- IGE_DEC_START (42_ige_commands.md R184): exactly as IGE_ENC_START, with PASS_DIR 1. -/
def Obligations.IgeDecStartExecutes : Prop :=
  decode 0x00000005#32 = .igeDecStart ∧
  ∀ (S : Snapshot) (s : State), InFlightIs .igeDecStart S s →
    (s.passActive = true → exec .igeDecStart s = .next (completedWith 9 0 s)) ∧
    (s.passActive = false → S.keyLen ≠ 32 → exec .igeDecStart s = .next (completedWith 1 0 s)) ∧
    (s.passActive = false → S.keyLen = 32 → S.ivLen ≠ 32 → exec .igeDecStart s = .next (completedWith 2 0 s)) ∧
    (s.passActive = false → S.keyLen = 32 → S.ivLen = 32 → S.msgLen.toNat % 16 ≠ 0 →
      exec .igeDecStart s = .next (completedWith 3 1 s)) ∧
    (s.passActive = false → S.keyLen = 32 → S.ivLen = 32 → S.msgLen = 0 →
      exec .igeDecStart s = .next (completedWith 3 2 s)) ∧
    (s.passActive = false → S.keyLen = 32 → S.ivLen = 32 → S.msgLen.toNat % 16 = 0 → S.msgLen ≠ 0 →
      exec .igeDecStart s = .next (completedOk
        { s with
          w := keyExpansion S.key, keyValid := true
          chc := packBlock (Vector.ofFn fun j : Fin 16 => S.iv[j.val])
          chp := packBlock (Vector.ofFn fun j : Fin 16 => S.iv[16 + j.val])
          blkRemain := BitVec.ofNat 32 (S.msgLen.toNat / 16), blkDone := 0
          passActive := true, passDir := true }))

/-- IGE_STEP (42_ige_commands.md R185, with the laws R180 and R181 and EndPass, R186): NO_ACTIVE_PASS, else one block of
the pass in its direction, the counters, and the end of the pass exactly when BLK_REMAIN comes to 0; nothing else
changes. For BLK_REMAIN = 0 inside a pass, which no run reaches, the subtraction wraps: that is the model's (log entry 10). -/
def Obligations.IgeStepExecutes : Prop :=
  decode 0x00000006#32 = .igeStep ∧
  ∀ (S : Snapshot) (s : State), InFlightIs .igeStep S s →
    (s.passActive = false → exec .igeStep s = .next (completedWith 8 0 s)) ∧
    (s.passActive = true → s.passDir = false →
      let o := blockXor (cipher s.w (blockXor S.din (unpackBlock s.chc))) (unpackBlock s.chp)
      (s.blkRemain ≠ 1 → exec .igeStep s = .next (completedOk
        { s with
          chc := packBlock o, chp := packBlock S.din, dout := packBlock o
          blkRemain := s.blkRemain - 1, blkDone := s.blkDone + 1 })) ∧
      (s.blkRemain = 1 → exec .igeStep s = .next (completedOk
        { s with
          chc := Vector.replicate 4 0, chp := Vector.replicate 4 0, dout := packBlock o
          blkRemain := 0, blkDone := s.blkDone + 1, passActive := false, passDir := false }))) ∧
    (s.passActive = true → s.passDir = true →
      let o := blockXor (invCipher s.w (blockXor S.din (unpackBlock s.chp))) (unpackBlock s.chc)
      (s.blkRemain ≠ 1 → exec .igeStep s = .next (completedOk
        { s with
          chp := packBlock o, chc := packBlock S.din, dout := packBlock o
          blkRemain := s.blkRemain - 1, blkDone := s.blkDone + 1 })) ∧
      (s.blkRemain = 1 → exec .igeStep s = .next (completedOk
        { s with
          chc := Vector.replicate 4 0, chp := Vector.replicate 4 0, dout := packBlock o
          blkRemain := 0, blkDone := s.blkDone + 1, passActive := false, passDir := false })))

/-- IGE_ABORT (42_ige_commands.md R187, R186): ends an active pass, leaving BLK_DONE, DOUT, W and KEY_VALID; with no pass
active it completes and changes nothing else; it never fails. -/
def Obligations.IgeAbortExecutes : Prop :=
  decode 0x00000007#32 = .igeAbort ∧
  ∀ (S : Snapshot) (s : State), InFlightIs .igeAbort S s →
    (s.passActive = false → exec .igeAbort s = .next (completedOk s)) ∧
    (s.passActive = true → exec .igeAbort s = .next (completedOk
      { s with
        passActive := false, passDir := false, chc := Vector.replicate 4 0, chp := Vector.replicate 4 0
        blkRemain := 0 }))

/-- Strict order (42_ige_commands.md R188): feeding the blocks of a whole pass to an idle engine gives, in order, the
blocks of the chaining law from the pass's chaining state, and ends the pass, W and KEY_VALID kept. -/
def Obligations.PassFollowsTheChainingLaw : Prop :=
  ∀ (blocks : List Block) (s : State), s.busy = false → s.passActive = true → blocks ≠ [] →
    s.blkRemain.toNat = blocks.length →
    ∃ t, runPass blocks s =
        some ((if s.passDir then igeDecrypt s.w (unpackBlock s.chc) (unpackBlock s.chp) blocks
          else igeEncrypt s.w (unpackBlock s.chc) (unpackBlock s.chp) blocks), t) ∧
      t.busy = false ∧ t.passActive = false ∧ t.err = false ∧ t.w = s.w ∧ t.keyValid = s.keyValid ∧
      t.key = s.key ∧ t.keyLen = s.keyLen ∧ t.iv = s.iv ∧ t.ivLen = s.ivLen ∧ t.msgLen = s.msgLen

/-- Round trip (42_ige_commands.md R190): from any idle engine outside a pass, an encryption pass over the k ≥ 1 blocks
MSG_LEN promises, and then a decryption pass over what it gave, with the same key and IV registers, returns the
plaintext. -/
def Obligations.IgePassesRoundTrip : Prop :=
  ∀ (blocks : List Block) (s : State), s.busy = false → s.passActive = false → s.keyLen = 32 → s.ivLen = 32 →
    blocks ≠ [] → s.msgLen.toNat = 16 * blocks.length →
    ∃ t1 cipherBlocks t2 t3 t4,
      issue .igeEncStart s = .next t1 ∧ runPass blocks t1 = some (cipherBlocks, t2) ∧
      cipherBlocks.length = blocks.length ∧
      issue .igeDecStart t2 = .next t3 ∧ runPass cipherBlocks t3 = some (blocks, t4) ∧ t4.passActive = false

/-! ### AES-256 -/

/-- The field and the S-box tables (40_aes_primitives.md R121, R122, R123): the product a • b is the xor of x^i • a over the
bits i set in b, SBOX[a] is the affine map of the multiplicative inverse of a, with inv(0) = 0, and INV_SBOX is its inverse
permutation. -/
def Obligations.SboxesAreTheAffineInverse : Prop :=
  let aff := fun b : Byte => b ^^^ b.rotateLeft 1 ^^^ b.rotateLeft 2 ^^^ b.rotateLeft 3 ^^^ b.rotateLeft 4 ^^^ 0x63#8
  let x := fun a : Byte => (a <<< 1) ^^^ (if a.getLsbD 7 then 0x1B#8 else 0#8)
  (∀ a b : Byte, gmul a b =
    (if b.getLsbD 0 then a else 0#8) ^^^ (if b.getLsbD 1 then x a else 0#8) ^^^
    (if b.getLsbD 2 then x (x a) else 0#8) ^^^ (if b.getLsbD 3 then x (x (x a)) else 0#8) ^^^
    (if b.getLsbD 4 then x (x (x (x a))) else 0#8) ^^^ (if b.getLsbD 5 then x (x (x (x (x a)))) else 0#8) ^^^
    (if b.getLsbD 6 then x (x (x (x (x (x a))))) else 0#8) ^^^
    (if b.getLsbD 7 then x (x (x (x (x (x (x a)))))) else 0#8)) ∧
  gmul 0x57#8 0x83#8 = 0xC1#8 ∧ gmul 0x57#8 0x13#8 = 0xFE#8 ∧ sbox 0x53#8 = 0xED#8 ∧ invSbox 0xED#8 = 0x53#8 ∧
  sbox 0#8 = aff 0#8 ∧ (∀ a : Byte, a ≠ 0#8 → ∃ b : Byte, gmul a b = 0x01#8 ∧ sbox a = aff b) ∧
  (∀ a : Byte, invSbox (sbox a) = a) ∧ (∀ a : Byte, sbox (invSbox a) = a)

/-- The key expansion's recurrence (40_aes_primitives.md R128, R129, R130): W[0..7] are the key's bytes, big-endian in each
word, which are the byte-swapped KEY registers, and every later word is W[i-8] xor the transformed W[i-1], Rcon every 8
words and SubWord every 4; Rcon, RotWord and SubWord are the tables and byte laws of their rules, and the words are W's. -/
def Obligations.KeyExpansionRecurrence : Prop :=
  (∀ (w : Schedule) (i : Fin 60), schedWord w i.val = w[i]) ∧
  ((List.range' 1 7).map rcon = [0x01#8, 0x02#8, 0x04#8, 0x08#8, 0x10#8, 0x20#8, 0x40#8]) ∧
  (∀ b0 b1 b2 b3 : Byte, rotWord (b0 ++ b1 ++ b2 ++ b3) = b1 ++ b2 ++ b3 ++ b0 ∧
    subWord (b0 ++ b1 ++ b2 ++ b3) = sbox b0 ++ sbox b1 ++ sbox b2 ++ sbox b3) ∧
  (∀ (k : Bytes32) (i : Fin 8), schedWord (keyExpansion k) i.val =
    k[4 * i.val] ++ k[4 * i.val + 1] ++ k[4 * i.val + 2] ++ k[4 * i.val + 3]) ∧
  (∀ (x : Vector Word 8) (i : Fin 8), schedWord (keyExpansion (unpackBytes32 x)) i.val =
    (x[i]).extractLsb' 0 8 ++ (x[i]).extractLsb' 8 8 ++ (x[i]).extractLsb' 16 8 ++ (x[i]).extractLsb' 24 8) ∧
  (∀ (k : Bytes32) (i : Nat), 8 ≤ i → i < 60 →
    let temp := schedWord (keyExpansion k) (i - 1)
    schedWord (keyExpansion k) i = schedWord (keyExpansion k) (i - 8) ^^^
      (if i % 8 = 0 then subWord (rotWord temp) ^^^ ((rcon (i / 8)).setWidth 32 <<< 24)
       else if i % 8 = 4 then subWord temp else temp))

/-- What Cipher and InvCipher are, and that they undo each other. The steps, byte by byte of the block B[r + 4c]: SubBytes,
ShiftRows and their inverses (40_aes_primitives.md R124, R125), the rows of MixColumns and InvMixColumns over xtime (R120,
R121, R126), AddRoundKey (R127). The round sequences (R131, R132): the state after round r follows from the state before it,
for any naming of these states. The FIPS-197 vector R131 and R132 give. And for every schedule, so for every key's, each of
Cipher and InvCipher undoes the other and is a permutation of the blocks (R133). -/
def Obligations.CipherAndInvCipherAreInverse : Prop :=
  let x := fun a : Byte => (a <<< 1) ^^^ (if a.getLsbD 7 then 0x1B#8 else 0#8)
  let m9 := fun a : Byte => x (x (x a)) ^^^ a
  let mb := fun a : Byte => x (x (x a)) ^^^ x a ^^^ a
  let md := fun a : Byte => x (x (x a)) ^^^ x (x a) ^^^ a
  let me := fun a : Byte => x (x (x a)) ^^^ x (x a) ^^^ x a
  (∀ (s : Block) (j : Fin 16), (subBytes s)[j] = sbox s[j] ∧ (invSubBytes s)[j] = invSbox s[j]) ∧
  (∀ (s : Block) (r c : Fin 4),
    (shiftRows s)[r.val + 4 * c.val] = s[r.val + 4 * ((c.val + r.val) % 4)] ∧
    (invShiftRows s)[r.val + 4 * c.val] = s[r.val + 4 * ((c.val + 4 - r.val) % 4)]) ∧
  (∀ (s : Block) (c : Fin 4),
    let s0 := s[4 * c.val]
    let s1 := s[4 * c.val + 1]
    let s2 := s[4 * c.val + 2]
    let s3 := s[4 * c.val + 3]
    ((mixColumns s)[4 * c.val] = x s0 ^^^ (x s1 ^^^ s1) ^^^ s2 ^^^ s3 ∧
      (mixColumns s)[4 * c.val + 1] = s0 ^^^ x s1 ^^^ (x s2 ^^^ s2) ^^^ s3 ∧
      (mixColumns s)[4 * c.val + 2] = s0 ^^^ s1 ^^^ x s2 ^^^ (x s3 ^^^ s3) ∧
      (mixColumns s)[4 * c.val + 3] = (x s0 ^^^ s0) ^^^ s1 ^^^ s2 ^^^ x s3) ∧
    ((invMixColumns s)[4 * c.val] = me s0 ^^^ mb s1 ^^^ md s2 ^^^ m9 s3 ∧
      (invMixColumns s)[4 * c.val + 1] = m9 s0 ^^^ me s1 ^^^ mb s2 ^^^ md s3 ∧
      (invMixColumns s)[4 * c.val + 2] = md s0 ^^^ m9 s1 ^^^ me s2 ^^^ mb s3 ∧
      (invMixColumns s)[4 * c.val + 3] = mb s0 ^^^ md s1 ^^^ m9 s2 ^^^ me s3)) ∧
  (∀ (w : Schedule) (s : Block) (round : Fin 15) (r c : Fin 4),
    (addRoundKey w round.val s)[r.val + 4 * c.val] =
      s[r.val + 4 * c.val] ^^^ (w[4 * round.val + c.val]).extractLsb' (24 - 8 * r.val) 8) ∧
  (∀ s : Block, invShiftRows (shiftRows s) = s ∧ invMixColumns (mixColumns s) = s ∧
    ∀ (w : Schedule) (round : Fin 15), addRoundKey w round.val (addRoundKey w round.val s) = s) ∧
  (∀ (w : Schedule) (b : Block) (st : Nat → Block), st 0 = addRoundKey w 0 b →
    (∀ r, 1 ≤ r → r ≤ 13 → st r = addRoundKey w r (mixColumns (shiftRows (subBytes (st (r - 1)))))) →
    cipher w b = addRoundKey w 14 (shiftRows (subBytes (st 13)))) ∧
  (∀ (w : Schedule) (b : Block) (st : Nat → Block), st 14 = addRoundKey w 14 b →
    (∀ r, 1 ≤ r → r ≤ 13 → st r = invMixColumns (addRoundKey w r (invSubBytes (invShiftRows (st (r + 1)))))) →
    invCipher w b = addRoundKey w 0 (invSubBytes (invShiftRows (st 1)))) ∧
  (let w := keyExpansion (Vector.ofFn fun i : Fin 32 => BitVec.ofNat 8 i.val)
   let plain : Block := Vector.ofFn fun i : Fin 16 => BitVec.ofNat 8 (17 * i.val)
   let encrypted : Block := #v[0x8E#8, 0xA2#8, 0xB7#8, 0xCA#8, 0x51#8, 0x67#8, 0x45#8, 0xBF#8, 0xEA#8, 0xFC#8, 0x49#8,
     0x90#8, 0x4B#8, 0x49#8, 0x60#8, 0x89#8]
   cipher w plain = encrypted ∧ invCipher w encrypted = plain) ∧
  (∀ w : Schedule, (∀ b : Block, invCipher w (cipher w b) = b) ∧ (∀ b : Block, cipher w (invCipher w b) = b) ∧
    Function.Bijective (cipher w) ∧ Function.Bijective (invCipher w))

/-! ### FACTORIZE -/

/-- FACTORIZE (43_factorization.md R215): the three pre-checks, the exhaustion of the search and the three post-checks each
end in their error with FACT_P and FACT_Q 0, else FACT_P and FACT_Q are the pair; FACT_STEPS and FACT_C report the search
on every path; nothing else changes, in a pass or not. Exhaustion is stated for every choice of the parameters, because no
input is known that exhausts the default ones (95_test_vectors.md section 5.3). -/
def Obligations.FactorizeExecutes : Prop :=
  let failed := fun (s : State) (code sub : BitVec 4) (steps clast : Nat) =>
    Host.Outcome.next (φ := Fault) (ρ := Refusal) (completedWith code sub
      { s with factP := 0, factQ := 0, factSteps := BitVec.ofNat 32 (min steps (2 ^ 32 - 1)),
               factC := BitVec.ofNat 32 clast })
  decode 0x00000008#32 = .factorize ∧
  (∀ s : State, exec .factorize s = runCommand (factorizeRule tgcFactParams) s) ∧
  (∀ (P : Config.FactParams) (S : Snapshot) (s : State) (n : Nat) (r : SearchResult), InFlightIs .factorize S s →
    n = S.n.toNat → r = findFactor P n → 3 < n → n % 2 = 1 → isPrimeWith P.mrBases n = false → r.factor = none →
    runCommand (factorizeRule P) s = failed s 5 0 r.steps r.clast) ∧
  ∀ (S : Snapshot) (s : State) (n : Nat) (r : SearchResult), InFlightIs .factorize S s → n = S.n.toNat →
    r = findFactor tgcFactParams n →
    (n ≤ 3 → exec .factorize s = failed s 4 1 0 0) ∧
    (3 < n → n % 2 = 0 → exec .factorize s = failed s 4 2 0 0) ∧
    (3 < n → n % 2 = 1 → isPrime n = true → exec .factorize s = failed s 4 3 0 0) ∧
    (∀ d, 3 < n → n % 2 = 1 → isPrime n = false → r.factor = some d →
      let p := min d (n / d)
      let q := max d (n / d)
      (¬(isPrime p = true ∧ isPrime q = true) → exec .factorize s = failed s 4 4 r.steps r.clast) ∧
      (isPrime p = true → isPrime q = true → p = q → exec .factorize s = failed s 4 5 r.steps r.clast) ∧
      (isPrime p = true → isPrime q = true → p ≠ q → 2 ^ 32 ≤ q → exec .factorize s = failed s 4 6 r.steps r.clast) ∧
      (isPrime p = true → isPrime q = true → p ≠ q → q < 2 ^ 32 →
        exec .factorize s = .next (completedOk
          { s with factP := BitVec.ofNat 32 p, factQ := BitVec.ofNat 32 q,
                   factSteps := BitVec.ofNat 32 (min r.steps (2 ^ 32 - 1)), factC := BitVec.ofNat 32 r.clast })))

/-- PowMod is b^e mod m (43_factorization.md R201), and MulMod and f_c are the exact products reduced. -/
def Obligations.ModularArithmeticIsExact : Prop :=
  (∀ b e m : Nat, powMod b e m = b ^ e % m) ∧ (∀ a b n : Nat, mulMod a b n = a * b % n) ∧
  (∀ n c v : Nat, rhoStep n c v = (v * v + c) % n)

/-- IsPrime accepts every prime (43_factorization.md R203: "it returns true exactly for the primes"; this is one of the two
directions, for every m). -/
def Obligations.IsPrimeAcceptsEveryPrime : Prop :=
  ∀ m : Nat, m.Prime → isPrime m = true

/-- Trial division (43_factorization.md R206): TRIAL_PRIMES are the 53 odd primes 3 to 251 ascending; the first of them
that divides n is the factor, no rho step is counted then, and none is found exactly when none divides n. -/
def Obligations.TrialDivisionFindsTheLeastPrime : Prop :=
  (∀ t : Nat, t ∈ tgcFactParams.trialPrimes ↔ t.Prime ∧ 3 ≤ t ∧ t ≤ 251) ∧
  tgcFactParams.trialPrimes.length = 53 ∧ tgcFactParams.trialPrimes.Pairwise (· < ·) ∧
  (∀ n t : Nat, trialDivide tgcFactParams.trialPrimes n = some t ↔
    t ∈ tgcFactParams.trialPrimes ∧ t ∣ n ∧ ∀ u ∈ tgcFactParams.trialPrimes, u ∣ n → t ≤ u) ∧
  (∀ n : Nat, trialDivide tgcFactParams.trialPrimes n = none ↔ ∀ u ∈ tgcFactParams.trialPrimes, ¬ u ∣ n) ∧
  (∀ n t : Nat, trialDivide tgcFactParams.trialPrimes n = some t →
    findFactor tgcFactParams n = { factor := some t, steps := 0, clast := 0 })

/-- A factor that a rho attempt returns is proper (43_factorization.md R208: "A returned g satisfies 1 < g < n and divides
n"), for every choice of the parameters. -/
def Obligations.RhoFactorIsProper : Prop :=
  ∀ (P : Config.FactParams) (n c d : Nat), 0 < n → (brentAttempt P n c).factor = some d → 1 < d ∧ d < n ∧ d ∣ n

/-- The attempt sequence and its budget (43_factorization.md R209, R210, R213, R214), for every choice of the parameters:
after trial division finds nothing, the search result is that of the least offset c in 1..FACT_ATTEMPTS whose attempt gives
a factor, FACT_C is that c (FACT_ATTEMPTS where there is none), and the steps are the sum of those of attempts 1..c. With
TGC-CORE's parameters one attempt performs at most 4,194,430 evaluations and one FACTORIZE at most 67,110,880, so FACT_STEPS
never saturates, and FACT_C is at most 16. Three rows of 95_test_vectors.md sections 5.1 and 5.3: the first attempt gives
the factor, the second does, and neither does. -/
def Obligations.RhoWorkIsBounded : Prop :=
  (∀ (P : Config.FactParams) (n : Nat), trialDivide P.trialPrimes n = none →
    let work := fun c : Nat => ((List.range' 1 c).map fun k => (brentAttempt P n k).steps).sum
    (∀ c d : Nat, 1 ≤ c → c ≤ P.attempts → (∀ k, 1 ≤ k → k < c → (brentAttempt P n k).factor = none) →
      (brentAttempt P n c).factor = some d → findFactor P n = { factor := some d, steps := work c, clast := c }) ∧
    ((∀ c, 1 ≤ c → c ≤ P.attempts → (brentAttempt P n c).factor = none) →
      findFactor P n = { factor := none, steps := work P.attempts, clast := P.attempts })) ∧
  (∀ n c : Nat, (brentAttempt tgcFactParams n c).steps ≤ 4194430) ∧
  (∀ n : Nat, (factorizeWith tgcFactParams n).steps ≤ 67110880 ∧ (factorizeWith tgcFactParams n).clast ≤ 16) ∧
  factorizeWith tgcFactParams 67591 = { outcome := .factors 257 263, steps := 66, clast := 1 } ∧
  factorizeWith tgcFactParams 79927 = { outcome := .factors 257 311, steps := 97, clast := 2 } ∧
  factorizeWith { tgcFactParams with attempts := 2, rhoRLimit := 4 } 67591 =
    { outcome := .failed .factorizationExhausted, steps := 28, clast := 2 }

/-- A successful factorization is right (43_factorization.md R212, R216): p · q = n, p < q < 2^32 and both pass IsPrime. -/
def Obligations.SuccessfulFactorizationIsCorrect : Prop :=
  ∀ n p q : Nat, (factorizeWith tgcFactParams n).outcome = .factors p q →
    p * q = n ∧ 1 < p ∧ p < q ∧ q < 2 ^ 32 ∧ isPrime p = true ∧ isPrime q = true

/-- Valid inputs with a factor of at most 37 succeed (43_factorization.md R204, R206): for odd primes p < q with p ≤ 37 and
q < 2^32 the result is the pair (p, q), by trial division alone; n = 15 is among them. -/
def Obligations.SmallSemiprimesFactor : Prop :=
  ∀ p q : Nat, p.Prime → q.Prime → 3 ≤ p → p ≤ 37 → p < q → q < 2 ^ 32 →
    factorizeWith tgcFactParams (p * q) = { outcome := .factors p q, steps := 0, clast := 0 }

/-! ### Invariants -/

/-- The reset state satisfies the invariants. -/
def Obligations.ResetSatisfiesTheInvariants : Prop := EngineInv State.reset ∧ FactInv State.reset

/-- Every step keeps the engine's invariant (10_state.md R25, R29, R30, R31, R23; 42_ige_commands.md R186; 60_exceptions.md
R251, R252, R265), from every state that satisfies it. -/
def Obligations.StepKeepsTheEngineInvariant : Prop :=
  ∀ s t : State, EngineInv s → step s = .next t → EngineInv t

/-- Every step keeps the factorization registers' invariant (10_state.md R22, 43_factorization.md R210, R214): no partial
result is ever in them. -/
def Obligations.StepKeepsTheFactorInvariant : Prop :=
  ∀ s t : State, FactInv s → step s = .next t → FactInv t

/-- No state that satisfies the invariant stops (30_encoding.md R95, R99): every step answers a next state, whatever the
host's program and the schedule (the only fault, of log entry 8, is never raised). -/
def Obligations.InvariantStatesNeverStop : Prop :=
  ∀ s : State, EngineInv s → ∃ t, step s = .next t

/-- No command hangs (30_encoding.md R99, 70_reset_and_hazards.md R291): whatever the schedule, an engine in a good state
comes to BUSY = 0 within as many steps as the schedule has turns, and one more. The bound is the model's schedule and its
default (log entry 2). -/
def Obligations.BusyEngineComesToRest : Prop :=
  ∀ s : State, EngineInv s → ∃ n t, n ≤ s.schedule.length + 1 ∧ runSteps n s = some t ∧ t.busy = false
end

