-- ==== Sys2Proof/Laws/State.lean ====
section
/-! SUPPORT. What each named update does to each field of State, one lemma per field, so that no proof unfolds a
record update. -/

namespace Sys2Proof.Machine

variable (s : State)

/-! ### completeOk -/

@[simp] theorem completeOk_key : (completeOk s).key = s.key := rfl
@[simp] theorem completeOk_keyLen : (completeOk s).keyLen = s.keyLen := rfl
@[simp] theorem completeOk_iv : (completeOk s).iv = s.iv := rfl
@[simp] theorem completeOk_ivLen : (completeOk s).ivLen = s.ivLen := rfl
@[simp] theorem completeOk_msgLen : (completeOk s).msgLen = s.msgLen := rfl
@[simp] theorem completeOk_din : (completeOk s).din = s.din := rfl
@[simp] theorem completeOk_nLo : (completeOk s).nLo = s.nLo := rfl
@[simp] theorem completeOk_nHi : (completeOk s).nHi = s.nHi := rfl
@[simp] theorem completeOk_dout : (completeOk s).dout = s.dout := rfl
@[simp] theorem completeOk_factP : (completeOk s).factP = s.factP := rfl
@[simp] theorem completeOk_factQ : (completeOk s).factQ = s.factQ := rfl
@[simp] theorem completeOk_factSteps : (completeOk s).factSteps = s.factSteps := rfl
@[simp] theorem completeOk_factC : (completeOk s).factC = s.factC := rfl
@[simp] theorem completeOk_chc : (completeOk s).chc = s.chc := rfl
@[simp] theorem completeOk_chp : (completeOk s).chp = s.chp := rfl
@[simp] theorem completeOk_blkRemain : (completeOk s).blkRemain = s.blkRemain := rfl
@[simp] theorem completeOk_blkDone : (completeOk s).blkDone = s.blkDone := rfl
@[simp] theorem completeOk_passActive : (completeOk s).passActive = s.passActive := rfl
@[simp] theorem completeOk_passDir : (completeOk s).passDir = s.passDir := rfl
@[simp] theorem completeOk_w : (completeOk s).w = s.w := rfl
@[simp] theorem completeOk_keyValid : (completeOk s).keyValid = s.keyValid := rfl
@[simp] theorem completeOk_irqEn : (completeOk s).irqEn = s.irqEn := rfl
@[simp] theorem completeOk_doneP : (completeOk s).doneP = true := rfl
@[simp] theorem completeOk_errP : (completeOk s).errP = s.errP := rfl
@[simp] theorem completeOk_ovrP : (completeOk s).ovrP = s.ovrP := rfl
@[simp] theorem completeOk_busy : (completeOk s).busy = false := rfl
@[simp] theorem completeOk_done : (completeOk s).done = true := rfl
@[simp] theorem completeOk_err : (completeOk s).err = s.err := rfl
@[simp] theorem completeOk_errCode : (completeOk s).errCode = s.errCode := rfl
@[simp] theorem completeOk_subCause : (completeOk s).subCause = s.subCause := rfl
@[simp] theorem completeOk_lastOp : (completeOk s).lastOp = s.lastOp := rfl
@[simp] theorem completeOk_inflight : (completeOk s).inflight = none := rfl
@[simp] theorem completeOk_program : (completeOk s).program = s.program := rfl
@[simp] theorem completeOk_schedule : (completeOk s).schedule = s.schedule := rfl
@[simp] theorem completeOk_resp : (completeOk s).resp = s.resp := rfl

/-! ### completeError -/

@[simp] theorem completeError_key (e : CmdError) : (completeError e s).key = s.key := rfl
@[simp] theorem completeError_keyLen (e : CmdError) : (completeError e s).keyLen = s.keyLen := rfl
@[simp] theorem completeError_iv (e : CmdError) : (completeError e s).iv = s.iv := rfl
@[simp] theorem completeError_ivLen (e : CmdError) : (completeError e s).ivLen = s.ivLen := rfl
@[simp] theorem completeError_msgLen (e : CmdError) : (completeError e s).msgLen = s.msgLen := rfl
@[simp] theorem completeError_din (e : CmdError) : (completeError e s).din = s.din := rfl
@[simp] theorem completeError_nLo (e : CmdError) : (completeError e s).nLo = s.nLo := rfl
@[simp] theorem completeError_nHi (e : CmdError) : (completeError e s).nHi = s.nHi := rfl
@[simp] theorem completeError_dout (e : CmdError) : (completeError e s).dout = s.dout := rfl
@[simp] theorem completeError_factP (e : CmdError) : (completeError e s).factP = s.factP := rfl
@[simp] theorem completeError_factQ (e : CmdError) : (completeError e s).factQ = s.factQ := rfl
@[simp] theorem completeError_factSteps (e : CmdError) : (completeError e s).factSteps = s.factSteps := rfl
@[simp] theorem completeError_factC (e : CmdError) : (completeError e s).factC = s.factC := rfl
@[simp] theorem completeError_chc (e : CmdError) : (completeError e s).chc = s.chc := rfl
@[simp] theorem completeError_chp (e : CmdError) : (completeError e s).chp = s.chp := rfl
@[simp] theorem completeError_blkRemain (e : CmdError) : (completeError e s).blkRemain = s.blkRemain := rfl
@[simp] theorem completeError_blkDone (e : CmdError) : (completeError e s).blkDone = s.blkDone := rfl
@[simp] theorem completeError_passActive (e : CmdError) : (completeError e s).passActive = s.passActive := rfl
@[simp] theorem completeError_passDir (e : CmdError) : (completeError e s).passDir = s.passDir := rfl
@[simp] theorem completeError_w (e : CmdError) : (completeError e s).w = s.w := rfl
@[simp] theorem completeError_keyValid (e : CmdError) : (completeError e s).keyValid = s.keyValid := rfl
@[simp] theorem completeError_irqEn (e : CmdError) : (completeError e s).irqEn = s.irqEn := rfl
@[simp] theorem completeError_doneP (e : CmdError) : (completeError e s).doneP = true := rfl
@[simp] theorem completeError_errP (e : CmdError) : (completeError e s).errP = true := rfl
@[simp] theorem completeError_ovrP (e : CmdError) : (completeError e s).ovrP = s.ovrP := rfl
@[simp] theorem completeError_busy (e : CmdError) : (completeError e s).busy = false := rfl
@[simp] theorem completeError_done (e : CmdError) : (completeError e s).done = true := rfl
@[simp] theorem completeError_err (e : CmdError) : (completeError e s).err = true := rfl
@[simp] theorem completeError_errCode (e : CmdError) : (completeError e s).errCode = errCodeOf e := rfl
@[simp] theorem completeError_subCause (e : CmdError) : (completeError e s).subCause = subCauseOf e := rfl
@[simp] theorem completeError_lastOp (e : CmdError) : (completeError e s).lastOp = s.lastOp := rfl
@[simp] theorem completeError_inflight (e : CmdError) : (completeError e s).inflight = none := rfl
@[simp] theorem completeError_program (e : CmdError) : (completeError e s).program = s.program := rfl
@[simp] theorem completeError_schedule (e : CmdError) : (completeError e s).schedule = s.schedule := rfl
@[simp] theorem completeError_resp (e : CmdError) : (completeError e s).resp = s.resp := rfl

/-! ### acceptCommand -/

@[simp] theorem acceptCommand_key (v : Word) : (acceptCommand v s).key = s.key := rfl
@[simp] theorem acceptCommand_keyLen (v : Word) : (acceptCommand v s).keyLen = s.keyLen := rfl
@[simp] theorem acceptCommand_iv (v : Word) : (acceptCommand v s).iv = s.iv := rfl
@[simp] theorem acceptCommand_ivLen (v : Word) : (acceptCommand v s).ivLen = s.ivLen := rfl
@[simp] theorem acceptCommand_msgLen (v : Word) : (acceptCommand v s).msgLen = s.msgLen := rfl
@[simp] theorem acceptCommand_din (v : Word) : (acceptCommand v s).din = s.din := rfl
@[simp] theorem acceptCommand_nLo (v : Word) : (acceptCommand v s).nLo = s.nLo := rfl
@[simp] theorem acceptCommand_nHi (v : Word) : (acceptCommand v s).nHi = s.nHi := rfl
@[simp] theorem acceptCommand_dout (v : Word) : (acceptCommand v s).dout = s.dout := rfl
@[simp] theorem acceptCommand_factP (v : Word) : (acceptCommand v s).factP = s.factP := rfl
@[simp] theorem acceptCommand_factQ (v : Word) : (acceptCommand v s).factQ = s.factQ := rfl
@[simp] theorem acceptCommand_factSteps (v : Word) : (acceptCommand v s).factSteps = s.factSteps := rfl
@[simp] theorem acceptCommand_factC (v : Word) : (acceptCommand v s).factC = s.factC := rfl
@[simp] theorem acceptCommand_chc (v : Word) : (acceptCommand v s).chc = s.chc := rfl
@[simp] theorem acceptCommand_chp (v : Word) : (acceptCommand v s).chp = s.chp := rfl
@[simp] theorem acceptCommand_blkRemain (v : Word) : (acceptCommand v s).blkRemain = s.blkRemain := rfl
@[simp] theorem acceptCommand_blkDone (v : Word) : (acceptCommand v s).blkDone = s.blkDone := rfl
@[simp] theorem acceptCommand_passActive (v : Word) : (acceptCommand v s).passActive = s.passActive := rfl
@[simp] theorem acceptCommand_passDir (v : Word) : (acceptCommand v s).passDir = s.passDir := rfl
@[simp] theorem acceptCommand_w (v : Word) : (acceptCommand v s).w = s.w := rfl
@[simp] theorem acceptCommand_keyValid (v : Word) : (acceptCommand v s).keyValid = s.keyValid := rfl
@[simp] theorem acceptCommand_irqEn (v : Word) : (acceptCommand v s).irqEn = s.irqEn := rfl
@[simp] theorem acceptCommand_doneP (v : Word) : (acceptCommand v s).doneP = s.doneP := rfl
@[simp] theorem acceptCommand_errP (v : Word) : (acceptCommand v s).errP = s.errP := rfl
@[simp] theorem acceptCommand_ovrP (v : Word) : (acceptCommand v s).ovrP = s.ovrP := rfl
@[simp] theorem acceptCommand_busy (v : Word) : (acceptCommand v s).busy = true := rfl
@[simp] theorem acceptCommand_done (v : Word) : (acceptCommand v s).done = false := rfl
@[simp] theorem acceptCommand_err (v : Word) : (acceptCommand v s).err = false := rfl
@[simp] theorem acceptCommand_errCode (v : Word) : (acceptCommand v s).errCode = 0 := rfl
@[simp] theorem acceptCommand_subCause (v : Word) : (acceptCommand v s).subCause = 0 := rfl
@[simp] theorem acceptCommand_lastOp (v : Word) : (acceptCommand v s).lastOp = opcodeField v := rfl
@[simp] theorem acceptCommand_inflight (v : Word) : (acceptCommand v s).inflight = some { cmd := decode v, snap := snapshot s } := rfl
@[simp] theorem acceptCommand_program (v : Word) : (acceptCommand v s).program = s.program := rfl
@[simp] theorem acceptCommand_schedule (v : Word) : (acceptCommand v s).schedule = s.schedule := rfl
@[simp] theorem acceptCommand_resp (v : Word) : (acceptCommand v s).resp = s.resp := rfl

/-! ### endPass -/

@[simp] theorem endPass_key : (endPass s).key = s.key := rfl
@[simp] theorem endPass_keyLen : (endPass s).keyLen = s.keyLen := rfl
@[simp] theorem endPass_iv : (endPass s).iv = s.iv := rfl
@[simp] theorem endPass_ivLen : (endPass s).ivLen = s.ivLen := rfl
@[simp] theorem endPass_msgLen : (endPass s).msgLen = s.msgLen := rfl
@[simp] theorem endPass_din : (endPass s).din = s.din := rfl
@[simp] theorem endPass_nLo : (endPass s).nLo = s.nLo := rfl
@[simp] theorem endPass_nHi : (endPass s).nHi = s.nHi := rfl
@[simp] theorem endPass_dout : (endPass s).dout = s.dout := rfl
@[simp] theorem endPass_factP : (endPass s).factP = s.factP := rfl
@[simp] theorem endPass_factQ : (endPass s).factQ = s.factQ := rfl
@[simp] theorem endPass_factSteps : (endPass s).factSteps = s.factSteps := rfl
@[simp] theorem endPass_factC : (endPass s).factC = s.factC := rfl
@[simp] theorem endPass_chc : (endPass s).chc = Vector.replicate 4 0 := rfl
@[simp] theorem endPass_chp : (endPass s).chp = Vector.replicate 4 0 := rfl
@[simp] theorem endPass_blkRemain : (endPass s).blkRemain = 0 := rfl
@[simp] theorem endPass_blkDone : (endPass s).blkDone = s.blkDone := rfl
@[simp] theorem endPass_passActive : (endPass s).passActive = false := rfl
@[simp] theorem endPass_passDir : (endPass s).passDir = false := rfl
@[simp] theorem endPass_w : (endPass s).w = s.w := rfl
@[simp] theorem endPass_keyValid : (endPass s).keyValid = s.keyValid := rfl
@[simp] theorem endPass_irqEn : (endPass s).irqEn = s.irqEn := rfl
@[simp] theorem endPass_doneP : (endPass s).doneP = s.doneP := rfl
@[simp] theorem endPass_errP : (endPass s).errP = s.errP := rfl
@[simp] theorem endPass_ovrP : (endPass s).ovrP = s.ovrP := rfl
@[simp] theorem endPass_busy : (endPass s).busy = s.busy := rfl
@[simp] theorem endPass_done : (endPass s).done = s.done := rfl
@[simp] theorem endPass_err : (endPass s).err = s.err := rfl
@[simp] theorem endPass_errCode : (endPass s).errCode = s.errCode := rfl
@[simp] theorem endPass_subCause : (endPass s).subCause = s.subCause := rfl
@[simp] theorem endPass_lastOp : (endPass s).lastOp = s.lastOp := rfl
@[simp] theorem endPass_inflight : (endPass s).inflight = s.inflight := rfl
@[simp] theorem endPass_program : (endPass s).program = s.program := rfl
@[simp] theorem endPass_schedule : (endPass s).schedule = s.schedule := rfl
@[simp] theorem endPass_resp : (endPass s).resp = s.resp := rfl

/-! ### engineReset -/

@[simp] theorem engineReset_key : (engineReset s).key = Vector.replicate 8 0 := rfl
@[simp] theorem engineReset_keyLen : (engineReset s).keyLen = 0 := rfl
@[simp] theorem engineReset_iv : (engineReset s).iv = Vector.replicate 8 0 := rfl
@[simp] theorem engineReset_ivLen : (engineReset s).ivLen = 0 := rfl
@[simp] theorem engineReset_msgLen : (engineReset s).msgLen = 0 := rfl
@[simp] theorem engineReset_din : (engineReset s).din = Vector.replicate 4 0 := rfl
@[simp] theorem engineReset_nLo : (engineReset s).nLo = 0 := rfl
@[simp] theorem engineReset_nHi : (engineReset s).nHi = 0 := rfl
@[simp] theorem engineReset_dout : (engineReset s).dout = Vector.replicate 4 0 := rfl
@[simp] theorem engineReset_factP : (engineReset s).factP = 0 := rfl
@[simp] theorem engineReset_factQ : (engineReset s).factQ = 0 := rfl
@[simp] theorem engineReset_factSteps : (engineReset s).factSteps = 0 := rfl
@[simp] theorem engineReset_factC : (engineReset s).factC = 0 := rfl
@[simp] theorem engineReset_chc : (engineReset s).chc = Vector.replicate 4 0 := rfl
@[simp] theorem engineReset_chp : (engineReset s).chp = Vector.replicate 4 0 := rfl
@[simp] theorem engineReset_blkRemain : (engineReset s).blkRemain = 0 := rfl
@[simp] theorem engineReset_blkDone : (engineReset s).blkDone = 0 := rfl
@[simp] theorem engineReset_passActive : (engineReset s).passActive = false := rfl
@[simp] theorem engineReset_passDir : (engineReset s).passDir = false := rfl
@[simp] theorem engineReset_w : (engineReset s).w = Vector.replicate 60 0 := rfl
@[simp] theorem engineReset_keyValid : (engineReset s).keyValid = false := rfl
@[simp] theorem engineReset_irqEn : (engineReset s).irqEn = false := rfl
@[simp] theorem engineReset_doneP : (engineReset s).doneP = false := rfl
@[simp] theorem engineReset_errP : (engineReset s).errP = false := rfl
@[simp] theorem engineReset_ovrP : (engineReset s).ovrP = false := rfl
@[simp] theorem engineReset_busy : (engineReset s).busy = false := rfl
@[simp] theorem engineReset_done : (engineReset s).done = false := rfl
@[simp] theorem engineReset_err : (engineReset s).err = false := rfl
@[simp] theorem engineReset_errCode : (engineReset s).errCode = 0 := rfl
@[simp] theorem engineReset_subCause : (engineReset s).subCause = 0 := rfl
@[simp] theorem engineReset_lastOp : (engineReset s).lastOp = 0 := rfl
@[simp] theorem engineReset_inflight : (engineReset s).inflight = none := rfl
@[simp] theorem engineReset_program : (engineReset s).program = s.program := rfl
@[simp] theorem engineReset_schedule : (engineReset s).schedule = s.schedule := rfl
@[simp] theorem engineReset_resp : (engineReset s).resp = s.resp := rfl

/-! ### clearAll -/

@[simp] theorem clearAll_key : (clearAll s).key = Vector.replicate 8 0 := rfl
@[simp] theorem clearAll_keyLen : (clearAll s).keyLen = 0 := rfl
@[simp] theorem clearAll_iv : (clearAll s).iv = Vector.replicate 8 0 := rfl
@[simp] theorem clearAll_ivLen : (clearAll s).ivLen = 0 := rfl
@[simp] theorem clearAll_msgLen : (clearAll s).msgLen = 0 := rfl
@[simp] theorem clearAll_din : (clearAll s).din = Vector.replicate 4 0 := rfl
@[simp] theorem clearAll_nLo : (clearAll s).nLo = 0 := rfl
@[simp] theorem clearAll_nHi : (clearAll s).nHi = 0 := rfl
@[simp] theorem clearAll_dout : (clearAll s).dout = Vector.replicate 4 0 := rfl
@[simp] theorem clearAll_factP : (clearAll s).factP = 0 := rfl
@[simp] theorem clearAll_factQ : (clearAll s).factQ = 0 := rfl
@[simp] theorem clearAll_factSteps : (clearAll s).factSteps = 0 := rfl
@[simp] theorem clearAll_factC : (clearAll s).factC = 0 := rfl
@[simp] theorem clearAll_chc : (clearAll s).chc = Vector.replicate 4 0 := rfl
@[simp] theorem clearAll_chp : (clearAll s).chp = Vector.replicate 4 0 := rfl
@[simp] theorem clearAll_blkRemain : (clearAll s).blkRemain = 0 := rfl
@[simp] theorem clearAll_blkDone : (clearAll s).blkDone = 0 := rfl
@[simp] theorem clearAll_passActive : (clearAll s).passActive = false := rfl
@[simp] theorem clearAll_passDir : (clearAll s).passDir = false := rfl
@[simp] theorem clearAll_w : (clearAll s).w = Vector.replicate 60 0 := rfl
@[simp] theorem clearAll_keyValid : (clearAll s).keyValid = false := rfl
@[simp] theorem clearAll_irqEn : (clearAll s).irqEn = s.irqEn := rfl
@[simp] theorem clearAll_doneP : (clearAll s).doneP = s.doneP := rfl
@[simp] theorem clearAll_errP : (clearAll s).errP = s.errP := rfl
@[simp] theorem clearAll_ovrP : (clearAll s).ovrP = s.ovrP := rfl
@[simp] theorem clearAll_busy : (clearAll s).busy = s.busy := rfl
@[simp] theorem clearAll_done : (clearAll s).done = s.done := rfl
@[simp] theorem clearAll_err : (clearAll s).err = s.err := rfl
@[simp] theorem clearAll_errCode : (clearAll s).errCode = s.errCode := rfl
@[simp] theorem clearAll_subCause : (clearAll s).subCause = s.subCause := rfl
@[simp] theorem clearAll_lastOp : (clearAll s).lastOp = s.lastOp := rfl
@[simp] theorem clearAll_inflight : (clearAll s).inflight = s.inflight := rfl
@[simp] theorem clearAll_program : (clearAll s).program = s.program := rfl
@[simp] theorem clearAll_schedule : (clearAll s).schedule = s.schedule := rfl
@[simp] theorem clearAll_resp : (clearAll s).resp = s.resp := rfl

/-! ### loadSchedule -/

@[simp] theorem loadSchedule_key (k : Bytes32) : (loadSchedule k s).key = s.key := rfl
@[simp] theorem loadSchedule_keyLen (k : Bytes32) : (loadSchedule k s).keyLen = s.keyLen := rfl
@[simp] theorem loadSchedule_iv (k : Bytes32) : (loadSchedule k s).iv = s.iv := rfl
@[simp] theorem loadSchedule_ivLen (k : Bytes32) : (loadSchedule k s).ivLen = s.ivLen := rfl
@[simp] theorem loadSchedule_msgLen (k : Bytes32) : (loadSchedule k s).msgLen = s.msgLen := rfl
@[simp] theorem loadSchedule_din (k : Bytes32) : (loadSchedule k s).din = s.din := rfl
@[simp] theorem loadSchedule_nLo (k : Bytes32) : (loadSchedule k s).nLo = s.nLo := rfl
@[simp] theorem loadSchedule_nHi (k : Bytes32) : (loadSchedule k s).nHi = s.nHi := rfl
@[simp] theorem loadSchedule_dout (k : Bytes32) : (loadSchedule k s).dout = s.dout := rfl
@[simp] theorem loadSchedule_factP (k : Bytes32) : (loadSchedule k s).factP = s.factP := rfl
@[simp] theorem loadSchedule_factQ (k : Bytes32) : (loadSchedule k s).factQ = s.factQ := rfl
@[simp] theorem loadSchedule_factSteps (k : Bytes32) : (loadSchedule k s).factSteps = s.factSteps := rfl
@[simp] theorem loadSchedule_factC (k : Bytes32) : (loadSchedule k s).factC = s.factC := rfl
@[simp] theorem loadSchedule_chc (k : Bytes32) : (loadSchedule k s).chc = s.chc := rfl
@[simp] theorem loadSchedule_chp (k : Bytes32) : (loadSchedule k s).chp = s.chp := rfl
@[simp] theorem loadSchedule_blkRemain (k : Bytes32) : (loadSchedule k s).blkRemain = s.blkRemain := rfl
@[simp] theorem loadSchedule_blkDone (k : Bytes32) : (loadSchedule k s).blkDone = s.blkDone := rfl
@[simp] theorem loadSchedule_passActive (k : Bytes32) : (loadSchedule k s).passActive = s.passActive := rfl
@[simp] theorem loadSchedule_passDir (k : Bytes32) : (loadSchedule k s).passDir = s.passDir := rfl
@[simp] theorem loadSchedule_w (k : Bytes32) : (loadSchedule k s).w = keyExpansion k := rfl
@[simp] theorem loadSchedule_keyValid (k : Bytes32) : (loadSchedule k s).keyValid = true := rfl
@[simp] theorem loadSchedule_irqEn (k : Bytes32) : (loadSchedule k s).irqEn = s.irqEn := rfl
@[simp] theorem loadSchedule_doneP (k : Bytes32) : (loadSchedule k s).doneP = s.doneP := rfl
@[simp] theorem loadSchedule_errP (k : Bytes32) : (loadSchedule k s).errP = s.errP := rfl
@[simp] theorem loadSchedule_ovrP (k : Bytes32) : (loadSchedule k s).ovrP = s.ovrP := rfl
@[simp] theorem loadSchedule_busy (k : Bytes32) : (loadSchedule k s).busy = s.busy := rfl
@[simp] theorem loadSchedule_done (k : Bytes32) : (loadSchedule k s).done = s.done := rfl
@[simp] theorem loadSchedule_err (k : Bytes32) : (loadSchedule k s).err = s.err := rfl
@[simp] theorem loadSchedule_errCode (k : Bytes32) : (loadSchedule k s).errCode = s.errCode := rfl
@[simp] theorem loadSchedule_subCause (k : Bytes32) : (loadSchedule k s).subCause = s.subCause := rfl
@[simp] theorem loadSchedule_lastOp (k : Bytes32) : (loadSchedule k s).lastOp = s.lastOp := rfl
@[simp] theorem loadSchedule_inflight (k : Bytes32) : (loadSchedule k s).inflight = s.inflight := rfl
@[simp] theorem loadSchedule_program (k : Bytes32) : (loadSchedule k s).program = s.program := rfl
@[simp] theorem loadSchedule_schedule (k : Bytes32) : (loadSchedule k s).schedule = s.schedule := rfl
@[simp] theorem loadSchedule_resp (k : Bytes32) : (loadSchedule k s).resp = s.resp := rfl

/-! ### countBlock -/

@[simp] theorem countBlock_key : (countBlock s).key = s.key := rfl
@[simp] theorem countBlock_keyLen : (countBlock s).keyLen = s.keyLen := rfl
@[simp] theorem countBlock_iv : (countBlock s).iv = s.iv := rfl
@[simp] theorem countBlock_ivLen : (countBlock s).ivLen = s.ivLen := rfl
@[simp] theorem countBlock_msgLen : (countBlock s).msgLen = s.msgLen := rfl
@[simp] theorem countBlock_din : (countBlock s).din = s.din := rfl
@[simp] theorem countBlock_nLo : (countBlock s).nLo = s.nLo := rfl
@[simp] theorem countBlock_nHi : (countBlock s).nHi = s.nHi := rfl
@[simp] theorem countBlock_dout : (countBlock s).dout = s.dout := rfl
@[simp] theorem countBlock_factP : (countBlock s).factP = s.factP := rfl
@[simp] theorem countBlock_factQ : (countBlock s).factQ = s.factQ := rfl
@[simp] theorem countBlock_factSteps : (countBlock s).factSteps = s.factSteps := rfl
@[simp] theorem countBlock_factC : (countBlock s).factC = s.factC := rfl
@[simp] theorem countBlock_chc : (countBlock s).chc = s.chc := rfl
@[simp] theorem countBlock_chp : (countBlock s).chp = s.chp := rfl
@[simp] theorem countBlock_blkRemain : (countBlock s).blkRemain = s.blkRemain - 1 := rfl
@[simp] theorem countBlock_blkDone : (countBlock s).blkDone = s.blkDone + 1 := rfl
@[simp] theorem countBlock_passActive : (countBlock s).passActive = s.passActive := rfl
@[simp] theorem countBlock_passDir : (countBlock s).passDir = s.passDir := rfl
@[simp] theorem countBlock_w : (countBlock s).w = s.w := rfl
@[simp] theorem countBlock_keyValid : (countBlock s).keyValid = s.keyValid := rfl
@[simp] theorem countBlock_irqEn : (countBlock s).irqEn = s.irqEn := rfl
@[simp] theorem countBlock_doneP : (countBlock s).doneP = s.doneP := rfl
@[simp] theorem countBlock_errP : (countBlock s).errP = s.errP := rfl
@[simp] theorem countBlock_ovrP : (countBlock s).ovrP = s.ovrP := rfl
@[simp] theorem countBlock_busy : (countBlock s).busy = s.busy := rfl
@[simp] theorem countBlock_done : (countBlock s).done = s.done := rfl
@[simp] theorem countBlock_err : (countBlock s).err = s.err := rfl
@[simp] theorem countBlock_errCode : (countBlock s).errCode = s.errCode := rfl
@[simp] theorem countBlock_subCause : (countBlock s).subCause = s.subCause := rfl
@[simp] theorem countBlock_lastOp : (countBlock s).lastOp = s.lastOp := rfl
@[simp] theorem countBlock_inflight : (countBlock s).inflight = s.inflight := rfl
@[simp] theorem countBlock_program : (countBlock s).program = s.program := rfl
@[simp] theorem countBlock_schedule : (countBlock s).schedule = s.schedule := rfl
@[simp] theorem countBlock_resp : (countBlock s).resp = s.resp := rfl

/-! ### takeTurn -/

@[simp] theorem takeTurn_key : (takeTurn s).key = s.key := rfl
@[simp] theorem takeTurn_keyLen : (takeTurn s).keyLen = s.keyLen := rfl
@[simp] theorem takeTurn_iv : (takeTurn s).iv = s.iv := rfl
@[simp] theorem takeTurn_ivLen : (takeTurn s).ivLen = s.ivLen := rfl
@[simp] theorem takeTurn_msgLen : (takeTurn s).msgLen = s.msgLen := rfl
@[simp] theorem takeTurn_din : (takeTurn s).din = s.din := rfl
@[simp] theorem takeTurn_nLo : (takeTurn s).nLo = s.nLo := rfl
@[simp] theorem takeTurn_nHi : (takeTurn s).nHi = s.nHi := rfl
@[simp] theorem takeTurn_dout : (takeTurn s).dout = s.dout := rfl
@[simp] theorem takeTurn_factP : (takeTurn s).factP = s.factP := rfl
@[simp] theorem takeTurn_factQ : (takeTurn s).factQ = s.factQ := rfl
@[simp] theorem takeTurn_factSteps : (takeTurn s).factSteps = s.factSteps := rfl
@[simp] theorem takeTurn_factC : (takeTurn s).factC = s.factC := rfl
@[simp] theorem takeTurn_chc : (takeTurn s).chc = s.chc := rfl
@[simp] theorem takeTurn_chp : (takeTurn s).chp = s.chp := rfl
@[simp] theorem takeTurn_blkRemain : (takeTurn s).blkRemain = s.blkRemain := rfl
@[simp] theorem takeTurn_blkDone : (takeTurn s).blkDone = s.blkDone := rfl
@[simp] theorem takeTurn_passActive : (takeTurn s).passActive = s.passActive := rfl
@[simp] theorem takeTurn_passDir : (takeTurn s).passDir = s.passDir := rfl
@[simp] theorem takeTurn_w : (takeTurn s).w = s.w := rfl
@[simp] theorem takeTurn_keyValid : (takeTurn s).keyValid = s.keyValid := rfl
@[simp] theorem takeTurn_irqEn : (takeTurn s).irqEn = s.irqEn := rfl
@[simp] theorem takeTurn_doneP : (takeTurn s).doneP = s.doneP := rfl
@[simp] theorem takeTurn_errP : (takeTurn s).errP = s.errP := rfl
@[simp] theorem takeTurn_ovrP : (takeTurn s).ovrP = s.ovrP := rfl
@[simp] theorem takeTurn_busy : (takeTurn s).busy = s.busy := rfl
@[simp] theorem takeTurn_done : (takeTurn s).done = s.done := rfl
@[simp] theorem takeTurn_err : (takeTurn s).err = s.err := rfl
@[simp] theorem takeTurn_errCode : (takeTurn s).errCode = s.errCode := rfl
@[simp] theorem takeTurn_subCause : (takeTurn s).subCause = s.subCause := rfl
@[simp] theorem takeTurn_lastOp : (takeTurn s).lastOp = s.lastOp := rfl
@[simp] theorem takeTurn_inflight : (takeTurn s).inflight = s.inflight := rfl
@[simp] theorem takeTurn_program : (takeTurn s).program = s.program := rfl
@[simp] theorem takeTurn_schedule : (takeTurn s).schedule = s.schedule.tail := rfl
@[simp] theorem takeTurn_resp : (takeTurn s).resp = s.resp := rfl

end Sys2Proof.Machine
end

