-- ==== Sys2Proof/Laws/Ops.lean ====
section
/-! SUPPORT. What each shared operation can do, said once: the inversion lemmas later proofs cite instead of unfolding. -/

namespace Sys2Proof.Machine

/-! ### Completion -/

theorem runCommand_of_inflight {rule : Snapshot → State → ExecResult} {s : State} {f : InFlight}
    (hb : s.busy = true) (hf : s.inflight = some f) : runCommand rule s = .next (finish (rule f.snap s)) := by
  simp [runCommand, hb, hf]

theorem runCommand_of_idle {rule : Snapshot → State → ExecResult} {s : State} (hb : s.busy = false) :
    runCommand rule s = .fault .completionNotEnabled := by
  simp [runCommand, hb]

/-- All that a completion can do. -/
theorem runCommand_next {rule : Snapshot → State → ExecResult} {s t : State} (h : runCommand rule s = .next t) :
    s.busy = true ∧ ∃ f, s.inflight = some f ∧ t = finish (rule f.snap s) := by
  unfold runCommand at h
  split at h
  · rename_i hb
    split at h
    · rename_i f hf
      exact ⟨hb, f, hf, by injection h with h; exact h.symm⟩
    · cases h
  · cases h

@[simp] theorem finish_completes (s : State) : finish (.completes s) = completeOk s := rfl

@[simp] theorem finish_raises (e : CmdError) (s : State) : finish (.raises e s) = completeError e s := rfl

/-- The rule (`Execute`) of each instruction: `exec` is its completion. -/
def ruleOf : Instr → Snapshot → State → ExecResult
  | .nop => nopRule
  | .keyExpand => keyExpandRule
  | .encBlock => blockRule cipher
  | .decBlock => blockRule invCipher
  | .igeEncStart => igeStartRule false
  | .igeDecStart => igeStartRule true
  | .igeStep => igeStepRule
  | .igeAbort => igeAbortRule
  | .factorize => factorizeRule tgcFactParams
  | .zeroize => zeroizeRule
  | .illegalOpcode0A0B w => illegalRule w
  | .illegalOpcode0C0F w => illegalRule w
  | .illegalOpcode101F w => illegalRule w
  | .illegalOpcode203F w => illegalRule w
  | .illegalOpcode407F w => illegalRule w
  | .illegalOpcode80FF w => illegalRule w
  | .illegalRsvdBit31 w => illegalRule w
  | .illegalRsvdBit30 w => illegalRule w
  | .illegalRsvdBit29 w => illegalRule w
  | .illegalRsvdBit28 w => illegalRule w
  | .illegalRsvdBit27 w => illegalRule w
  | .illegalRsvdBit26 w => illegalRule w
  | .illegalRsvdBit25 w => illegalRule w
  | .illegalRsvdBit24 w => illegalRule w
  | .illegalRsvdBit23 w => illegalRule w
  | .illegalRsvdBit22 w => illegalRule w
  | .illegalRsvdBit21 w => illegalRule w
  | .illegalRsvdBit20 w => illegalRule w
  | .illegalRsvdBit19 w => illegalRule w
  | .illegalRsvdBit18 w => illegalRule w
  | .illegalRsvdBit17 w => illegalRule w
  | .illegalRsvdBit16 w => illegalRule w
  | .illegalRsvdBit15 w => illegalRule w
  | .illegalRsvdBit14 w => illegalRule w
  | .illegalRsvdBit13 w => illegalRule w
  | .illegalRsvdBit12 w => illegalRule w
  | .illegalRsvdBit11 w => illegalRule w
  | .illegalRsvdBit10 w => illegalRule w
  | .illegalRsvdBit9 w => illegalRule w
  | .illegalRsvdBit8 w => illegalRule w

theorem exec_eq_runCommand (i : Instr) (s : State) : exec i s = runCommand (ruleOf i) s := by
  cases i <;> rfl

theorem exec_of_inflight {i : Instr} {s : State} {f : InFlight} (hb : s.busy = true) (hf : s.inflight = some f) :
    exec i s = .next (finish (ruleOf i f.snap s)) := by
  rw [exec_eq_runCommand, runCommand_of_inflight hb hf]

/-- All that executing an instruction can do. -/
theorem exec_next {i : Instr} {s t : State} (h : exec i s = .next t) :
    s.busy = true ∧ ∃ f, s.inflight = some f ∧ t = finish (ruleOf i f.snap s) :=
  runCommand_next (exec_eq_runCommand i s ▸ h)

/-! ### The rules of the commands -/

theorem keyExpandRule_cases (S : Snapshot) (s : State) :
    (s.passActive = true ∧ keyExpandRule S s = .raises .passInProgress s) ∨
    (s.passActive = false ∧ S.keyLen ≠ 32 ∧ keyExpandRule S s = .raises .invalidKeyLength s) ∨
    (s.passActive = false ∧ S.keyLen = 32 ∧ keyExpandRule S s = .completes (loadSchedule S.key s)) := by
  unfold keyExpandRule
  split
  · rename_i hp
    exact .inl ⟨hp, rfl⟩
  · rename_i hp
    rw [Bool.not_eq_true] at hp
    split
    · rename_i hk
      exact .inr (.inl ⟨hp, hk, rfl⟩)
    · rename_i hk
      exact .inr (.inr ⟨hp, not_not.mp hk, rfl⟩)

theorem blockRule_cases (f : Schedule → Block → Block) (S : Snapshot) (s : State) :
    (s.passActive = true ∧ blockRule f S s = .raises .passInProgress s) ∨
    (s.passActive = false ∧ s.keyValid = false ∧ blockRule f S s = .raises .keyNotValid s) ∨
    (s.passActive = false ∧ s.keyValid = true ∧
      blockRule f S s = .completes { s with dout := packBlock (f s.w S.din) }) := by
  unfold blockRule
  cases hp : s.passActive <;> cases hk : s.keyValid <;> simp

/-- A pass start either raises an error and changes nothing, or starts the pass its operands describe. -/
theorem igeStartRule_cases (dir : Bool) (S : Snapshot) (s : State) :
    (∃ e, igeStartRule dir S s = .raises e s) ∨
    (s.passActive = false ∧ S.keyLen = 32 ∧ S.ivLen = 32 ∧ S.msgLen.toNat % 16 = 0 ∧ S.msgLen ≠ 0 ∧
      igeStartRule dir S s = .completes
        { loadSchedule S.key s with
          chc := packBlock (ivFirstHalf S.iv)
          chp := packBlock (ivSecondHalf S.iv)
          blkRemain := BitVec.ofNat 32 (S.msgLen.toNat / 16)
          blkDone := 0
          passActive := true
          passDir := dir }) := by
  unfold igeStartRule
  cases hp : s.passActive <;> by_cases hk : S.keyLen = 32 <;> by_cases hi : S.ivLen = 32 <;>
    by_cases hm : S.msgLen.toNat % 16 = 0 <;> by_cases hz : S.msgLen = 0 <;> simp [hk, hi, hm, hz] <;> simp_all

theorem igeStepRule_cases (S : Snapshot) (s : State) :
    (s.passActive = false ∧ igeStepRule S s = .raises .noActivePass s) ∨
    (s.passActive = true ∧ igeStepRule S s = .completes (endPassIfDone (countBlock (igeTransform S.din s)))) := by
  unfold igeStepRule
  cases hp : s.passActive <;> simp

theorem endPassIfDone_cases (s : State) :
    (s.blkRemain = 0 ∧ endPassIfDone s = endPass s) ∨ (s.blkRemain ≠ 0 ∧ endPassIfDone s = s) := by
  unfold endPassIfDone
  split
  · rename_i h
    exact .inl ⟨h, rfl⟩
  · rename_i h
    exact .inr ⟨h, rfl⟩

/-- IGE_STEP's transform writes CHC, CHP and DOUT and nothing else. -/
theorem igeTransform_cases (b : Block) (s : State) :
    ∃ c p o, igeTransform b s = { s with chc := c, chp := p, dout := o } := by
  unfold igeTransform
  split <;> exact ⟨_, _, _, rfl⟩

theorem publishFactors_cases (r : FactResult) (s : State) :
    (∃ p q, r.outcome = .factors p q ∧ publishFactors r s = .completes
      { s with
        factP := BitVec.ofNat 32 p
        factQ := BitVec.ofNat 32 q
        factSteps := saturate32 r.steps
        factC := BitVec.ofNat 32 r.clast }) ∨
    (∃ e, r.outcome = .failed e ∧ publishFactors r s = .raises e
      { s with factP := 0, factQ := 0, factSteps := saturate32 r.steps, factC := BitVec.ofNat 32 r.clast }) := by
  unfold publishFactors
  cases h : r.outcome with
  | factors p q => exact .inl ⟨p, q, rfl, rfl⟩
  | failed e => exact .inr ⟨e, rfl, rfl⟩

/-! ### Host transactions and turns -/

theorem writeCmd_cases (v : Word) (s : State) :
    (s.busy = true ∧ writeCmd v s = { s with ovrP := true }) ∨ (s.busy = false ∧ writeCmd v s = acceptCommand v s) := by
  unfold writeCmd
  cases h : s.busy <;> simp

theorem writeCtrl_cases (v : Word) (s : State) :
    (v.getLsbD 1 = true ∧ writeCtrl v s = engineReset s) ∨
    (v.getLsbD 1 = false ∧ writeCtrl v s = { s with irqEn := v.getLsbD 0 }) := by
  unfold writeCtrl
  cases h : v.getLsbD 1 <;> simp

/-- A host write either changes nothing or writes one register. -/
theorem hostWrite_cases (off size : Nat) (v : Word) (s : State) :
    hostWrite off size v s = s ∨ ∃ r, regAt off = some r ∧ hostWrite off size v s = writeReg r v s := by
  unfold hostWrite
  split
  · split
    · rename_i r hr
      split
      · exact .inl rfl
      · exact .inr ⟨r, hr, rfl⟩
    · exact .inl rfl
  · exact .inl rfl

/-- All that a host turn can do: nothing, an answer on the bus, or one register write with its answer. -/
theorem hostTurn_cases (s : State) :
    hostTurn s = s ∨ (∃ prog resp, hostTurn s = { s with program := prog, resp := resp }) ∨
    (∃ prog resp off size v,
      hostTurn s = { hostWrite off size v { s with program := prog } with resp := resp }) := by
  unfold hostTurn hostOp
  split
  · exact .inl rfl
  · split
    · exact .inr (.inl ⟨_, _, rfl⟩)
    · exact .inr (.inr ⟨_, _, _, _, _, rfl⟩)
    · exact .inr (.inl ⟨_, _, rfl⟩)

/-- All that a step can do. -/
theorem step_next {s t : State} (h : step s = .next t) :
    (turnOf s = .host ∧ t = hostTurn (takeTurn s)) ∨
    (turnOf s = .powerOnReset ∧ t = engineReset (takeTurn s)) ∨
    (turnOf s = .sequencer ∧ s.busy = false ∧ t = takeTurn s) ∨
    (turnOf s = .sequencer ∧ s.busy = true ∧ ∃ f, s.inflight = some f ∧ exec f.cmd (takeTurn s) = .next t) := by
  unfold step at h
  cases ht : turnOf s with
  | host =>
    rw [ht] at h
    exact .inl ⟨rfl, by injection h with h; exact h.symm⟩
  | powerOnReset =>
    rw [ht] at h
    exact .inr (.inl ⟨rfl, by injection h with h; exact h.symm⟩)
  | sequencer =>
    rw [ht] at h
    cases hb : s.busy with
    | false =>
      simp only [hb] at h
      exact .inr (.inr (.inl ⟨rfl, rfl, by injection h with h; exact h.symm⟩))
    | true =>
      cases hf : s.inflight with
      | none => simp [hb, hf] at h
      | some f =>
        simp only [hb, hf, if_true] at h
        exact .inr (.inr (.inr ⟨rfl, rfl, f, rfl, h⟩))

end Sys2Proof.Machine
end

