-- ==== Sys2Proof/Laws/PerInstr.lean ====
section
/-! SUPPORT. Laws about every instruction, one lemma per constructor. -/

namespace Sys2Proof.Laws

/-- A well-formed instruction's word is selected by a row of opcode_table.json. -/
def SelectedByARow.Statement (i : Instr) : Prop :=
  i.wellFormed = true → ∃ r ∈ opcodeTable, r.matchesWord (encode i) = true

theorem SelectedByARow.nop : SelectedByARow.Statement .nop :=
  fun _ => ⟨⟨0x00000000#32, 0xFFFFFFFF#32⟩, by decide, by decide⟩

theorem SelectedByARow.keyExpand : SelectedByARow.Statement .keyExpand :=
  fun _ => ⟨⟨0x00000001#32, 0xFFFFFFFF#32⟩, by decide, by decide⟩

theorem SelectedByARow.encBlock : SelectedByARow.Statement .encBlock :=
  fun _ => ⟨⟨0x00000002#32, 0xFFFFFFFF#32⟩, by decide, by decide⟩

theorem SelectedByARow.decBlock : SelectedByARow.Statement .decBlock :=
  fun _ => ⟨⟨0x00000003#32, 0xFFFFFFFF#32⟩, by decide, by decide⟩

theorem SelectedByARow.igeEncStart : SelectedByARow.Statement .igeEncStart :=
  fun _ => ⟨⟨0x00000004#32, 0xFFFFFFFF#32⟩, by decide, by decide⟩

theorem SelectedByARow.igeDecStart : SelectedByARow.Statement .igeDecStart :=
  fun _ => ⟨⟨0x00000005#32, 0xFFFFFFFF#32⟩, by decide, by decide⟩

theorem SelectedByARow.igeStep : SelectedByARow.Statement .igeStep :=
  fun _ => ⟨⟨0x00000006#32, 0xFFFFFFFF#32⟩, by decide, by decide⟩

theorem SelectedByARow.igeAbort : SelectedByARow.Statement .igeAbort :=
  fun _ => ⟨⟨0x00000007#32, 0xFFFFFFFF#32⟩, by decide, by decide⟩

theorem SelectedByARow.factorize : SelectedByARow.Statement .factorize :=
  fun _ => ⟨⟨0x00000008#32, 0xFFFFFFFF#32⟩, by decide, by decide⟩

theorem SelectedByARow.zeroize : SelectedByARow.Statement .zeroize :=
  fun _ => ⟨⟨0x00000009#32, 0xFFFFFFFF#32⟩, by decide, by decide⟩

theorem SelectedByARow.illegalOpcode0A0B (w : Word) : SelectedByARow.Statement (.illegalOpcode0A0B w) :=
  fun h => ⟨⟨0x0000000A#32, 0xFFFFFFFE#32⟩, by decide, h⟩

theorem SelectedByARow.illegalOpcode0C0F (w : Word) : SelectedByARow.Statement (.illegalOpcode0C0F w) :=
  fun h => ⟨⟨0x0000000C#32, 0xFFFFFFFC#32⟩, by decide, h⟩

theorem SelectedByARow.illegalOpcode101F (w : Word) : SelectedByARow.Statement (.illegalOpcode101F w) :=
  fun h => ⟨⟨0x00000010#32, 0xFFFFFFF0#32⟩, by decide, h⟩

theorem SelectedByARow.illegalOpcode203F (w : Word) : SelectedByARow.Statement (.illegalOpcode203F w) :=
  fun h => ⟨⟨0x00000020#32, 0xFFFFFFE0#32⟩, by decide, h⟩

theorem SelectedByARow.illegalOpcode407F (w : Word) : SelectedByARow.Statement (.illegalOpcode407F w) :=
  fun h => ⟨⟨0x00000040#32, 0xFFFFFFC0#32⟩, by decide, h⟩

theorem SelectedByARow.illegalOpcode80FF (w : Word) : SelectedByARow.Statement (.illegalOpcode80FF w) :=
  fun h => ⟨⟨0x00000080#32, 0xFFFFFF80#32⟩, by decide, h⟩

theorem SelectedByARow.illegalRsvdBit31 (w : Word) : SelectedByARow.Statement (.illegalRsvdBit31 w) :=
  fun h => ⟨⟨0x80000000#32, 0x80000000#32⟩, by decide, h⟩

theorem SelectedByARow.illegalRsvdBit30 (w : Word) : SelectedByARow.Statement (.illegalRsvdBit30 w) :=
  fun h => ⟨⟨0x40000000#32, 0xC0000000#32⟩, by decide, h⟩

theorem SelectedByARow.illegalRsvdBit29 (w : Word) : SelectedByARow.Statement (.illegalRsvdBit29 w) :=
  fun h => ⟨⟨0x20000000#32, 0xE0000000#32⟩, by decide, h⟩

theorem SelectedByARow.illegalRsvdBit28 (w : Word) : SelectedByARow.Statement (.illegalRsvdBit28 w) :=
  fun h => ⟨⟨0x10000000#32, 0xF0000000#32⟩, by decide, h⟩

theorem SelectedByARow.illegalRsvdBit27 (w : Word) : SelectedByARow.Statement (.illegalRsvdBit27 w) :=
  fun h => ⟨⟨0x08000000#32, 0xF8000000#32⟩, by decide, h⟩

theorem SelectedByARow.illegalRsvdBit26 (w : Word) : SelectedByARow.Statement (.illegalRsvdBit26 w) :=
  fun h => ⟨⟨0x04000000#32, 0xFC000000#32⟩, by decide, h⟩

theorem SelectedByARow.illegalRsvdBit25 (w : Word) : SelectedByARow.Statement (.illegalRsvdBit25 w) :=
  fun h => ⟨⟨0x02000000#32, 0xFE000000#32⟩, by decide, h⟩

theorem SelectedByARow.illegalRsvdBit24 (w : Word) : SelectedByARow.Statement (.illegalRsvdBit24 w) :=
  fun h => ⟨⟨0x01000000#32, 0xFF000000#32⟩, by decide, h⟩

theorem SelectedByARow.illegalRsvdBit23 (w : Word) : SelectedByARow.Statement (.illegalRsvdBit23 w) :=
  fun h => ⟨⟨0x00800000#32, 0xFF800000#32⟩, by decide, h⟩

theorem SelectedByARow.illegalRsvdBit22 (w : Word) : SelectedByARow.Statement (.illegalRsvdBit22 w) :=
  fun h => ⟨⟨0x00400000#32, 0xFFC00000#32⟩, by decide, h⟩

theorem SelectedByARow.illegalRsvdBit21 (w : Word) : SelectedByARow.Statement (.illegalRsvdBit21 w) :=
  fun h => ⟨⟨0x00200000#32, 0xFFE00000#32⟩, by decide, h⟩

theorem SelectedByARow.illegalRsvdBit20 (w : Word) : SelectedByARow.Statement (.illegalRsvdBit20 w) :=
  fun h => ⟨⟨0x00100000#32, 0xFFF00000#32⟩, by decide, h⟩

theorem SelectedByARow.illegalRsvdBit19 (w : Word) : SelectedByARow.Statement (.illegalRsvdBit19 w) :=
  fun h => ⟨⟨0x00080000#32, 0xFFF80000#32⟩, by decide, h⟩

theorem SelectedByARow.illegalRsvdBit18 (w : Word) : SelectedByARow.Statement (.illegalRsvdBit18 w) :=
  fun h => ⟨⟨0x00040000#32, 0xFFFC0000#32⟩, by decide, h⟩

theorem SelectedByARow.illegalRsvdBit17 (w : Word) : SelectedByARow.Statement (.illegalRsvdBit17 w) :=
  fun h => ⟨⟨0x00020000#32, 0xFFFE0000#32⟩, by decide, h⟩

theorem SelectedByARow.illegalRsvdBit16 (w : Word) : SelectedByARow.Statement (.illegalRsvdBit16 w) :=
  fun h => ⟨⟨0x00010000#32, 0xFFFF0000#32⟩, by decide, h⟩

theorem SelectedByARow.illegalRsvdBit15 (w : Word) : SelectedByARow.Statement (.illegalRsvdBit15 w) :=
  fun h => ⟨⟨0x00008000#32, 0xFFFF8000#32⟩, by decide, h⟩

theorem SelectedByARow.illegalRsvdBit14 (w : Word) : SelectedByARow.Statement (.illegalRsvdBit14 w) :=
  fun h => ⟨⟨0x00004000#32, 0xFFFFC000#32⟩, by decide, h⟩

theorem SelectedByARow.illegalRsvdBit13 (w : Word) : SelectedByARow.Statement (.illegalRsvdBit13 w) :=
  fun h => ⟨⟨0x00002000#32, 0xFFFFE000#32⟩, by decide, h⟩

theorem SelectedByARow.illegalRsvdBit12 (w : Word) : SelectedByARow.Statement (.illegalRsvdBit12 w) :=
  fun h => ⟨⟨0x00001000#32, 0xFFFFF000#32⟩, by decide, h⟩

theorem SelectedByARow.illegalRsvdBit11 (w : Word) : SelectedByARow.Statement (.illegalRsvdBit11 w) :=
  fun h => ⟨⟨0x00000800#32, 0xFFFFF800#32⟩, by decide, h⟩

theorem SelectedByARow.illegalRsvdBit10 (w : Word) : SelectedByARow.Statement (.illegalRsvdBit10 w) :=
  fun h => ⟨⟨0x00000400#32, 0xFFFFFC00#32⟩, by decide, h⟩

theorem SelectedByARow.illegalRsvdBit9 (w : Word) : SelectedByARow.Statement (.illegalRsvdBit9 w) :=
  fun h => ⟨⟨0x00000200#32, 0xFFFFFE00#32⟩, by decide, h⟩

theorem SelectedByARow.illegalRsvdBit8 (w : Word) : SelectedByARow.Statement (.illegalRsvdBit8 w) :=
  fun h => ⟨⟨0x00000100#32, 0xFFFFFF00#32⟩, by decide, h⟩

end Sys2Proof.Laws
end

