-- ==== Sys2Proof/Tests/Slice0.lean ====
section
/-! SUPPORT. Tests on small states, and for every statement with hypotheses a concrete case that meets them. The expected
values are read off the spec: the encodings of 30_encoding.md R90, R91 and the vectors of 95_test_vectors.md. -/

open Sys2Proof Sys2Proof.Machine Sys2Proof.Safety

namespace Sys2Proof.Tests

/-! ### WellFormed: every check refuses a term that is not of its row (30_encoding.md R91) -/

theorem test_wellFormed_refuses_other_opcodes :
    (Instr.illegalOpcode0A0B 0x00000009#32).wellFormed = false ∧ (Instr.illegalOpcode0A0B 0x0000000C#32).wellFormed = false ∧
    (Instr.illegalOpcode0C0F 0x0000000B#32).wellFormed = false ∧ (Instr.illegalOpcode0C0F 0x00000010#32).wellFormed = false ∧
    (Instr.illegalOpcode101F 0x0000000F#32).wellFormed = false ∧ (Instr.illegalOpcode101F 0x00000020#32).wellFormed = false ∧
    (Instr.illegalOpcode203F 0x0000001F#32).wellFormed = false ∧ (Instr.illegalOpcode203F 0x00000040#32).wellFormed = false ∧
    (Instr.illegalOpcode407F 0x0000003F#32).wellFormed = false ∧ (Instr.illegalOpcode407F 0x00000080#32).wellFormed = false ∧
    (Instr.illegalOpcode80FF 0x0000007F#32).wellFormed = false ∧ (Instr.illegalOpcode80FF 0x00000180#32).wellFormed = false := by
  decide

/-- Each term carries a word whose highest set bit is another one. -/
theorem test_wellFormed_refuses_other_reserved_bits :
    (Instr.illegalRsvdBit31 0x40000005#32).wellFormed = false ∧
    (Instr.illegalRsvdBit30 0x20000005#32).wellFormed = false ∧ (Instr.illegalRsvdBit30 0xC0000000#32).wellFormed = false ∧
    (Instr.illegalRsvdBit29 0x10000005#32).wellFormed = false ∧ (Instr.illegalRsvdBit29 0x60000000#32).wellFormed = false ∧
    (Instr.illegalRsvdBit28 0x08000005#32).wellFormed = false ∧ (Instr.illegalRsvdBit28 0x30000000#32).wellFormed = false ∧
    (Instr.illegalRsvdBit27 0x04000005#32).wellFormed = false ∧ (Instr.illegalRsvdBit27 0x18000000#32).wellFormed = false ∧
    (Instr.illegalRsvdBit26 0x02000005#32).wellFormed = false ∧ (Instr.illegalRsvdBit26 0x0C000000#32).wellFormed = false ∧
    (Instr.illegalRsvdBit25 0x01000005#32).wellFormed = false ∧ (Instr.illegalRsvdBit25 0x06000000#32).wellFormed = false ∧
    (Instr.illegalRsvdBit24 0x00800005#32).wellFormed = false ∧ (Instr.illegalRsvdBit24 0x03000000#32).wellFormed = false ∧
    (Instr.illegalRsvdBit23 0x00400005#32).wellFormed = false ∧ (Instr.illegalRsvdBit23 0x01800000#32).wellFormed = false ∧
    (Instr.illegalRsvdBit22 0x00200005#32).wellFormed = false ∧ (Instr.illegalRsvdBit22 0x00C00000#32).wellFormed = false ∧
    (Instr.illegalRsvdBit21 0x00100005#32).wellFormed = false ∧ (Instr.illegalRsvdBit21 0x00600000#32).wellFormed = false ∧
    (Instr.illegalRsvdBit20 0x00080005#32).wellFormed = false ∧ (Instr.illegalRsvdBit20 0x00300000#32).wellFormed = false ∧
    (Instr.illegalRsvdBit19 0x00040005#32).wellFormed = false ∧ (Instr.illegalRsvdBit19 0x00180000#32).wellFormed = false ∧
    (Instr.illegalRsvdBit18 0x00020005#32).wellFormed = false ∧ (Instr.illegalRsvdBit18 0x000C0000#32).wellFormed = false ∧
    (Instr.illegalRsvdBit17 0x00010005#32).wellFormed = false ∧ (Instr.illegalRsvdBit17 0x00060000#32).wellFormed = false ∧
    (Instr.illegalRsvdBit16 0x00008005#32).wellFormed = false ∧ (Instr.illegalRsvdBit16 0x00030000#32).wellFormed = false ∧
    (Instr.illegalRsvdBit15 0x00004005#32).wellFormed = false ∧ (Instr.illegalRsvdBit15 0x00018000#32).wellFormed = false ∧
    (Instr.illegalRsvdBit14 0x00002005#32).wellFormed = false ∧ (Instr.illegalRsvdBit14 0x0000C000#32).wellFormed = false ∧
    (Instr.illegalRsvdBit13 0x00001005#32).wellFormed = false ∧ (Instr.illegalRsvdBit13 0x00006000#32).wellFormed = false ∧
    (Instr.illegalRsvdBit12 0x00000805#32).wellFormed = false ∧ (Instr.illegalRsvdBit12 0x00003000#32).wellFormed = false ∧
    (Instr.illegalRsvdBit11 0x00000405#32).wellFormed = false ∧ (Instr.illegalRsvdBit11 0x00001800#32).wellFormed = false ∧
    (Instr.illegalRsvdBit10 0x00000205#32).wellFormed = false ∧ (Instr.illegalRsvdBit10 0x00000C00#32).wellFormed = false ∧
    (Instr.illegalRsvdBit9 0x00000105#32).wellFormed = false ∧ (Instr.illegalRsvdBit9 0x00000600#32).wellFormed = false ∧
    (Instr.illegalRsvdBit8 0x00000085#32).wellFormed = false ∧ (Instr.illegalRsvdBit8 0x00000300#32).wellFormed = false := by
  decide

/-! ### Decode: one word of every row, written out from its fields RSVD ++ OPCODE (30_encoding.md R90, R91, R93) -/

theorem test_decode_commands :
    decode (0#24 ++ 0b00000000#8) = .nop ∧
    decode (0#24 ++ 0b00000001#8) = .keyExpand ∧
    decode (0#24 ++ 0b00000010#8) = .encBlock ∧
    decode (0#24 ++ 0b00000011#8) = .decBlock ∧
    decode (0#24 ++ 0b00000100#8) = .igeEncStart ∧
    decode (0#24 ++ 0b00000101#8) = .igeDecStart ∧
    decode (0#24 ++ 0b00000110#8) = .igeStep ∧
    decode (0#24 ++ 0b00000111#8) = .igeAbort ∧
    decode (0#24 ++ 0b00001000#8) = .factorize ∧
    decode (0#24 ++ 0b00001001#8) = .zeroize := by
  decide

theorem test_decode_unknown_opcodes :
    decode (0#24 ++ 0b00001011#8) = .illegalOpcode0A0B 0x0000000B#32 ∧
    decode (0#24 ++ 0b00001111#8) = .illegalOpcode0C0F 0x0000000F#32 ∧
    decode (0#24 ++ 0b00011111#8) = .illegalOpcode101F 0x0000001F#32 ∧
    decode (0#24 ++ 0b00111111#8) = .illegalOpcode203F 0x0000003F#32 ∧
    decode (0#24 ++ 0b01111111#8) = .illegalOpcode407F 0x0000007F#32 ∧
    decode (0#24 ++ 0b11111111#8) = .illegalOpcode80FF 0x000000FF#32 := by
  decide

/-- RSVD holds the named bit and a lower one; OPCODE is that of ENC_BLOCK, which does not matter. -/
theorem test_decode_reserved_bits :
    decode (0x800001#24 ++ 0x02#8) = .illegalRsvdBit31 0x80000102#32 ∧
    decode (0x400001#24 ++ 0x02#8) = .illegalRsvdBit30 0x40000102#32 ∧
    decode (0x200001#24 ++ 0x02#8) = .illegalRsvdBit29 0x20000102#32 ∧
    decode (0x100001#24 ++ 0x02#8) = .illegalRsvdBit28 0x10000102#32 ∧
    decode (0x080001#24 ++ 0x02#8) = .illegalRsvdBit27 0x08000102#32 ∧
    decode (0x040001#24 ++ 0x02#8) = .illegalRsvdBit26 0x04000102#32 ∧
    decode (0x020001#24 ++ 0x02#8) = .illegalRsvdBit25 0x02000102#32 ∧
    decode (0x010001#24 ++ 0x02#8) = .illegalRsvdBit24 0x01000102#32 ∧
    decode (0x008001#24 ++ 0x02#8) = .illegalRsvdBit23 0x00800102#32 ∧
    decode (0x004001#24 ++ 0x02#8) = .illegalRsvdBit22 0x00400102#32 ∧
    decode (0x002001#24 ++ 0x02#8) = .illegalRsvdBit21 0x00200102#32 ∧
    decode (0x001001#24 ++ 0x02#8) = .illegalRsvdBit20 0x00100102#32 ∧
    decode (0x000801#24 ++ 0x02#8) = .illegalRsvdBit19 0x00080102#32 ∧
    decode (0x000401#24 ++ 0x02#8) = .illegalRsvdBit18 0x00040102#32 ∧
    decode (0x000201#24 ++ 0x02#8) = .illegalRsvdBit17 0x00020102#32 ∧
    decode (0x000101#24 ++ 0x02#8) = .illegalRsvdBit16 0x00010102#32 ∧
    decode (0x000081#24 ++ 0x02#8) = .illegalRsvdBit15 0x00008102#32 ∧
    decode (0x000041#24 ++ 0x02#8) = .illegalRsvdBit14 0x00004102#32 ∧
    decode (0x000021#24 ++ 0x02#8) = .illegalRsvdBit13 0x00002102#32 ∧
    decode (0x000011#24 ++ 0x02#8) = .illegalRsvdBit12 0x00001102#32 ∧
    decode (0x000009#24 ++ 0x02#8) = .illegalRsvdBit11 0x00000902#32 ∧
    decode (0x000005#24 ++ 0x02#8) = .illegalRsvdBit10 0x00000502#32 ∧
    decode (0x000003#24 ++ 0x02#8) = .illegalRsvdBit9 0x00000302#32 ∧
    decode (0x000001#24 ++ 0x02#8) = .illegalRsvdBit8 0x00000102#32 := by
  decide

/-! ### One command from a small state (95_test_vectors.md sections 1 to 6) -/

/-- Key 00 01 … 1f and IV 20 21 … 3f, two blocks to come (95_test_vectors.md section 4). -/
def keyed : State :=
  { State.reset with
    key := #v[0x03020100#32, 0x07060504#32, 0x0B0A0908#32, 0x0F0E0D0C#32, 0x13121110#32, 0x17161514#32, 0x1B1A1918#32,
      0x1F1E1D1C#32]
    keyLen := 32#32
    iv := #v[0x23222120#32, 0x27262524#32, 0x2B2A2928#32, 0x2F2E2D2C#32, 0x33323130#32, 0x37363534#32, 0x3B3A3938#32,
      0x3F3E3D3C#32]
    ivLen := 32#32
    msgLen := 32#32 }

/-- The idle engine `s` right after it accepted the word of `i`. -/
def running (i : Instr) (s : State) : State := acceptCommand (encode i) s

/-- The state after `i` was issued and has completed. -/
def after (i : Instr) (s : State) : Option State :=
  match issue i s with
  | .next t => some t
  | .fault _ => none
  | .refused _ => none

/-- STATUS after `i`. -/
def statusAfter (i : Instr) (s : State) : Option Word := (after i s).map statusWord

/-- The key expanded. -/
def expanded : State := { keyed with w := keyExpansion (unpackBytes32 keyed.key), keyValid := true }

/-- Inside a pass in direction `dir` with `left` blocks to come, and a block in DIN. -/
def inPass (dir : Bool) (left : Word) : State :=
  { expanded with
    passActive := true, passDir := dir, blkRemain := left
    chc := #v[0x23222120#32, 0x27262524#32, 0x2B2A2928#32, 0x2F2E2D2C#32]
    chp := #v[0x33323130#32, 0x37363534#32, 0x3B3A3938#32, 0x3F3E3D3C#32]
    din := if dir then #v[0x1A6EE642#32, 0xF5CC6C75#32, 0x47CC7AB2#32, 0x74D03A52#32]
      else #v[0x03020100#32, 0x07060504#32, 0x0B0A0908#32, 0x0F0E0D0C#32] }

/-- Reset with N_HI:N_LO = n. -/
def withN (n : BitVec 64) : State := { State.reset with nLo := n.extractLsb' 0 32, nHi := n.extractLsb' 32 32 }

/-- Section 6: NOP. -/
theorem test_nop : statusAfter .nop State.reset = some 0x00000002#32 := by decide +kernel

/-- Section 3.4 and 3.2: STATUS, W[8], W[59]. -/
theorem test_keyExpand : (after .keyExpand keyed).map (fun t => (statusWord t, t.w[8], t.w[59])) =
    some (0x0001000A#32, 0xA573C29F#32, 0x6D68DE36#32) := by decide +kernel

/-- Section 3.4: KEY_LEN = 31 after a successful KEY_EXPAND. -/
theorem test_keyExpand_bad_length : statusAfter .keyExpand { expanded with keyLen := 31#32 } = some 0x0001010E#32 := by
  decide +kernel

/-- Section 3.5, the FIPS-197 C.3 vector. -/
theorem test_encBlock :
    (after .encBlock { expanded with din := #v[0x33221100#32, 0x77665544#32, 0xBBAA9988#32, 0xFFEEDDCC#32] }).map
      (fun t => (statusWord t, t.dout)) =
    some (0x0002000A#32, #v[0xCAB7A28E#32, 0xBF456751#32, 0x9049FCEA#32, 0x8960494B#32]) := by decide +kernel

/-- Section 3.5: from reset, and in a pass. -/
theorem test_encBlock_errors : statusAfter .encBlock State.reset = some 0x00020706#32 ∧
    statusAfter .encBlock (inPass false 2) = some 0x0002091E#32 := by decide +kernel

/-- Section 3.5. -/
theorem test_decBlock :
    (after .decBlock { expanded with din := #v[0xCAB7A28E#32, 0xBF456751#32, 0x9049FCEA#32, 0x8960494B#32] }).map
      (fun t => (statusWord t, t.dout)) =
    some (0x0003000A#32, #v[0x33221100#32, 0x77665544#32, 0xBBAA9988#32, 0xFFEEDDCC#32]) := by decide +kernel

/-- Section 3.5. -/
theorem test_decBlock_errors : statusAfter .decBlock State.reset = some 0x00030706#32 ∧
    statusAfter .decBlock (inPass false 2) = some 0x0003091E#32 := by decide +kernel

/-- Section 4.1, first row. -/
theorem test_igeEncStart : (after .igeEncStart keyed).map (fun t => (statusWord t, t.chc[0], t.chp[3], t.blkRemain)) =
    some (0x0004001A#32, 0x23222120#32, 0x3F3E3D3C#32, 2#32) := by decide +kernel

/-- Section 6.4, lines 24, 27, 39 and 42. -/
theorem test_igeEncStart_errors : statusAfter .igeEncStart { keyed with keyLen := 31#32 } = some 0x00040106#32 ∧
    statusAfter .igeEncStart { keyed with ivLen := 0#32 } = some 0x00040206#32 ∧
    statusAfter .igeEncStart { keyed with msgLen := 8#32 } = some 0x00041306#32 ∧
    statusAfter .igeEncStart { keyed with msgLen := 0#32 } = some 0x00042306#32 := by decide +kernel

/-- Section 6.2, line 51. -/
theorem test_igeDecStart : statusAfter .igeDecStart keyed = some 0x0005003A#32 := by decide +kernel

/-- Section 1.3. -/
theorem test_igeDecStart_bad_key : statusAfter .igeDecStart { keyed with keyLen := 31#32 } = some 0x00050106#32 := by
  decide +kernel

/-- Section 4.1, second row: an encryption step with a block left after it. -/
theorem test_igeStep_encrypt : (after .igeStep (inPass false 2)).map
      (fun t => (statusWord t, t.dout, t.chc, t.chp[0], t.blkRemain, t.blkDone)) =
    some (0x0006001A#32, #v[0x1A6EE642#32, 0xF5CC6C75#32, 0x47CC7AB2#32, 0x74D03A52#32],
      #v[0x1A6EE642#32, 0xF5CC6C75#32, 0x47CC7AB2#32, 0x74D03A52#32], 0x03020100#32, 1#32, 1#32) := by decide +kernel

/-- Section 6.2, lines 58 to 62, as the last block of its pass: a decryption step that ends it. -/
theorem test_igeStep_decrypt : (after .igeStep (inPass true 1)).map
      (fun t => (statusWord t, t.dout, t.chc, t.blkRemain)) =
    some (0x0006000A#32, #v[0x03020100#32, 0x07060504#32, 0x0B0A0908#32, 0x0F0E0D0C#32], #v[0#32, 0#32, 0#32, 0#32],
      0#32) := by decide +kernel

/-- Section 6.4, lines 62 to 65 and line 4: an abort, and a step outside a pass. -/
theorem test_igeAbort : (after .igeAbort (inPass false 2)).map (fun t => (statusWord t, t.chc[0], t.blkRemain)) =
    some (0x0007000A#32, 0#32, 0#32) ∧ statusAfter .igeStep State.reset = some 0x00060806#32 := by decide +kernel

/-- Section 1.4 (15) and section 6.3, lines 15 to 21 (67591 by rho, 0x42 evaluations). -/
theorem test_factorize : ([15#64, 67591#64].map fun n =>
      (after .factorize (withN n)).map fun t => (statusWord t, t.factP, t.factQ, t.factSteps, t.factC)) =
    [some (0x00080002#32, 3#32, 5#32, 0#32, 0#32), some (0x00080002#32, 0x101#32, 0x107#32, 0x42#32, 1#32)] := by
  decide +kernel

/-- Section 1.4 and the sub-causes of 60_exceptions.md R252: 2, 4, 5, 105, 9 and 3 · 4294967311. -/
theorem test_factorize_errors :
    ([2#64, 4#64, 5#64, 105#64, 9#64, 0x30000002D#64].map fun n => statusAfter .factorize (withN n)) =
    [some 0x00081406#32, some 0x00082406#32, some 0x00083406#32, some 0x00084406#32, some 0x00085406#32,
      some 0x00086406#32] := by decide +kernel

/-- Section 6.5, lines 2 and 3. -/
theorem test_zeroize : (after .zeroize { inPass true 2 with dout := #v[1#32, 2#32, 3#32, 4#32] }).map
      (fun t => (statusWord t, t.dout, t.key, t.blkRemain)) =
    some (0x00090002#32, Vector.replicate 4 0#32, Vector.replicate 8 0#32, 0#32) := by decide +kernel

/-- 60_exceptions.md R251, R252 (section 6.4, line 6): one word of each unknown-opcode row, STATUS from reset. -/
theorem test_unknown_opcodes : [Instr.illegalOpcode0A0B 0x0000000B#32, Instr.illegalOpcode0C0F 0x0000000F#32, Instr.illegalOpcode101F 0x0000001F#32,
      .illegalOpcode203F 0x0000003F#32, .illegalOpcode407F 0x0000007F#32, .illegalOpcode80FF 0x000000FF#32].map (fun i => statusAfter i State.reset) =
    [some 0x000B1606#32, some 0x000F1606#32, some 0x001F1606#32, some 0x003F1606#32, some 0x007F1606#32, some 0x00FF1606#32] := by decide +kernel

/-- 60_exceptions.md R252 (section 6.4, line 8): one word of each reserved-bits row, OPCODE 0x02, STATUS from reset. -/
theorem test_reserved_bits : ([
      Instr.illegalRsvdBit31 0x80000002#32, Instr.illegalRsvdBit30 0x40000002#32, Instr.illegalRsvdBit29 0x20000002#32,
      Instr.illegalRsvdBit28 0x10000002#32, Instr.illegalRsvdBit27 0x08000002#32, Instr.illegalRsvdBit26 0x04000002#32,
      Instr.illegalRsvdBit25 0x02000002#32, Instr.illegalRsvdBit24 0x01000002#32, Instr.illegalRsvdBit23 0x00800002#32,
      Instr.illegalRsvdBit22 0x00400002#32, Instr.illegalRsvdBit21 0x00200002#32, Instr.illegalRsvdBit20 0x00100002#32,
      Instr.illegalRsvdBit19 0x00080002#32, Instr.illegalRsvdBit18 0x00040002#32, Instr.illegalRsvdBit17 0x00020002#32,
      Instr.illegalRsvdBit16 0x00010002#32, Instr.illegalRsvdBit15 0x00008002#32, Instr.illegalRsvdBit14 0x00004002#32,
      Instr.illegalRsvdBit13 0x00002002#32, Instr.illegalRsvdBit12 0x00001002#32, Instr.illegalRsvdBit11 0x00000802#32,
      Instr.illegalRsvdBit10 0x00000402#32, Instr.illegalRsvdBit9 0x00000202#32, Instr.illegalRsvdBit8 0x00000102#32].all
    fun i => statusAfter i State.reset == some 0x00022606#32) = true := by decide +kernel

/-! ### Host transactions -/

/-- Section 6.4, lines 9 to 12. -/
theorem test_bus_errors : hostWriteResponse 0x00C 4 = .busError 0x00C ∧ hostRead 0x020 4 keyed = .data 0 ∧
    hostRead 0x0A8 4 keyed = .busError 0x0A8 ∧ hostRead 0x00E 4 keyed = .busError 0x00E := by decide

/-- Section 6.6, lines 3 to 7: the second CMD write finds BUSY = 1, its schedule fixed as there (n is 15 here). -/
theorem test_overrun : (runSteps 5 { withN 15#64 with
      program := [.write 0x008 4 8#32, .write 0x008 4 0#32, .read 0x00C 4, .read 0x010 4]
      schedule := [.host, .host, .host, .sequencer, .host] }).map (fun t => (t.resp, statusWord t, t.factP)) =
    some (.data 0x00000005#32, 0x00080002#32, 3#32) := by decide +kernel

/-- Section 6.5, lines 8 to 10: the soft reset. -/
theorem test_soft_reset : hostWrite 0x004 4 0x00000002#32 (inPass true 2) = State.reset := by decide +kernel

/-! ### The hypotheses of every statement are met -/

theorem running_inFlightIs {i : Instr} (h : decode (encode i) = i) (s : State) :
    InFlightIs i (snapshot s) (running i s) := ⟨rfl, by simp [running, acceptCommand, h]⟩

theorem witness_DecodeOfEncodeIsIdentity : (Instr.illegalOpcode0A0B 0x0000000A#32).wellFormed = true ∧
    (Instr.illegalOpcode80FF 0x000000FF#32).wellFormed = true ∧ (Instr.illegalRsvdBit31 0xFFFFFFFF#32).wellFormed = true ∧
    (Instr.illegalRsvdBit8 0x00000100#32).wellFormed = true := by decide

theorem witness_OpcodeMapIsExact : reservedBitsRows[(0 : Fin 24).val]? = some ⟨0x80000000#32, 0x80000000#32⟩ ∧
    reservedBitsRows[(23 : Fin 24).val]? = some ⟨0x00000100#32, 0xFFFFFF00#32⟩ := by decide

theorem witness_IllegalCommands_words : (0x00000100#32).extractLsb' 8 24 ≠ 0#24 ∧
    (0x0000000A#32).extractLsb' 8 24 = 0#24 ∧ 0x0A ≤ ((0x0000000A#32).extractLsb' 0 8).toNat ∧
    State.reset.busy = false := by decide

theorem witness_IllegalCommands_unknownOpcode :
    (Instr.illegalOpcode80FF 0x000000FF#32).wellFormed = true ∧
    InFlightIs (.illegalOpcode80FF 0x000000FF#32) (snapshot keyed) (running (.illegalOpcode80FF 0x000000FF#32) keyed) :=
  ⟨by decide, running_inFlightIs (by decide) keyed⟩

theorem witness_IllegalCommands_reservedBits :
    (Instr.illegalRsvdBit31 0x80000002#32).wellFormed = true ∧
    InFlightIs (.illegalRsvdBit31 0x80000002#32) (snapshot keyed) (running (.illegalRsvdBit31 0x80000002#32) keyed) :=
  ⟨by decide, running_inFlightIs (by decide) keyed⟩

theorem witness_CmdWriteIsAcceptedWhenIdle : keyed.busy = false := rfl

theorem witness_CmdWriteIsDroppedWhenBusy : (running .nop keyed).busy = true := rfl

theorem witness_SnapshotCopiesOperandRegisters : Reg.nHi ∈ [Reg.keyLen, .ivLen, .msgLen, .nLo, .nHi] ∧
    ∃ k, Reg.din 3 = .din k := ⟨by decide, 3, rfl⟩

theorem witness_EveryCommandCompletes : keyed.busy = false ∧
    InFlightIs .igeStep (snapshot keyed) (running .igeStep keyed) := ⟨rfl, running_inFlightIs (by decide) keyed⟩

theorem witness_ErrorCompletionsArePrecise_other : InFlightIs .encBlock (snapshot keyed) (running .encBlock keyed) ∧
    (running .encBlock keyed).err = false ∧
    exec .encBlock (running .encBlock keyed) = .next (completeError .keyNotValid (running .encBlock keyed)) ∧
    (completeError .keyNotValid (running .encBlock keyed)).err = true :=
  ⟨running_inFlightIs (by decide) keyed, rfl, rfl, rfl⟩

theorem witness_ErrorCompletionsArePrecise_factorize :
    InFlightIs .factorize (snapshot keyed) (running .factorize keyed) ∧ (running .factorize keyed).err = false ∧
    exec .factorize (running .factorize keyed) = .next (completeError .tooSmall (running .factorize keyed)) ∧
    (completeError .tooSmall (running .factorize keyed)).err = true :=
  ⟨running_inFlightIs (by decide) keyed, rfl, rfl, rfl⟩

/-- NOP is outside every exception of the statement, so that one case meets every clause. -/
theorem witness_CommandsLeaveOtherStateAlone : InFlightIs .nop (snapshot keyed) (running .nop keyed) ∧
    exec .nop (running .nop keyed) = .next (completeOk (running .nop keyed)) ∧ Instr.nop ≠ .zeroize ∧
    Instr.nop ∉ [Instr.keyExpand, .igeEncStart, .igeDecStart, .zeroize] ∧
    Instr.nop ∉ [Instr.encBlock, .decBlock, .igeStep, .zeroize] ∧ Instr.nop ∉ [Instr.factorize, .zeroize] ∧
    Instr.nop ∉ [Instr.igeEncStart, .igeDecStart, .igeStep, .igeAbort, .zeroize] :=
  ⟨running_inFlightIs (by decide) keyed, rfl, by decide, by decide, by decide, by decide, by decide⟩

theorem witness_StepRunsTheInflightCommand :
    InFlightIs .zeroize (snapshot keyed) (running .zeroize keyed) ∧ (running .zeroize keyed).schedule = [] ∧
    InFlightIs .zeroize (snapshot keyed) { running .zeroize keyed with schedule := [.sequencer, .host] } ∧
    ({ running .zeroize keyed with schedule := [.sequencer, .host] } : State).schedule = .sequencer :: [.host] :=
  ⟨running_inFlightIs (by decide) keyed, rfl, running_inFlightIs (by decide) keyed, rfl⟩

theorem witness_StepRunsTheFetchedWord : decodeTableWord 32 0x00000006 = some .igeStep ∧
    decodeTableWord 32 0xFFFFFFFF = some (.illegalRsvdBit31 0xFFFFFFFF#32) := by decide

theorem witness_CmdWriteThenCompletionAreTwoSteps :
    let s := { keyed with program := [.write 0x008 4 0x00000004#32, .wait] }
    s.busy = false ∧ s.schedule = [] ∧ s.program = .write 0x008 4 0x00000004#32 :: [.wait] := ⟨rfl, rfl, rfl⟩

theorem witness_HostReadStepHasNoSideEffect :
    let s := { running .nop keyed with program := [.read 0x00C 4], schedule := [.host] }
    s.schedule = .host :: [] ∧ s.program = .read 0x00C 4 :: [] := ⟨rfl, rfl⟩

theorem witness_WaitPollsUntilIdle :
    let s := { keyed with program := [.wait], schedule := [.host] }
    let t := { running .nop keyed with program := [.wait], schedule := [.host] }
    (s.schedule = .host :: [] ∧ s.program = .wait :: [] ∧ s.busy = false) ∧
    (t.schedule = .host :: [] ∧ t.program = .wait :: [] ∧ t.busy = true) := ⟨⟨rfl, rfl, rfl⟩, rfl, rfl, rfl⟩

theorem witness_IdleEngineHoldsItsState : keyed.busy = false ∧ keyed.program = [] ∧ keyed.schedule = [] :=
  ⟨rfl, rfl, rfl⟩

theorem witness_MalformedAccessesRaiseBusError : (2 ≠ 4 ∧ 0x00C % 4 = 0) ∧ (0x00E % 4 ≠ 0 ∧ 0x00E < 0x100) ∧
    (0x100 % 4 = 0 ∧ 0x100 ≤ 0x100) := by decide

theorem witness_ReservedOffsetsRaiseBusError : ReservedOffset 0x0A8 ∧ ReservedOffset 0x0AC ∧ ReservedOffset 0x0C8 ∧
    ReservedOffset 0x0FC := by
  refine ⟨.inl rfl, .inr (.inl rfl), .inr (.inr ?_), .inr (.inr ?_)⟩ <;> decide

/-- CMD and the last of KEY0..KEY7. -/
theorem witness_WriteOnlyRegistersReadZero :
    let s := { keyed with program := [.read 0x008 4], schedule := [.host] }
    let t := { keyed with program := [.read 0x03C 4], schedule := [.host] }
    (0x008 = 0x008 ∧ s.schedule = .host :: [] ∧ s.program = .read 0x008 4 :: []) ∧
    ((∃ k : Fin 8, 0x03C = 0x020 + 4 * k.val) ∧ t.schedule = .host :: [] ∧ t.program = .read 0x03C 4 :: []) :=
  ⟨⟨rfl, rfl, rfl⟩, ⟨7, rfl⟩, rfl, rfl⟩

theorem witness_ReadOnlyWritesRaiseBusError :
    Reg.factC ∈ [Reg.id, .status, .blkRemain, .blkDone, .factP, .factQ, .factSteps, .factC] ∧
    (∃ k, Reg.dout 0 = .dout k) ∧ (∃ k, Reg.chc 0 = .chc k) ∧ ∃ k, Reg.chp 3 = .chp k :=
  ⟨by decide, ⟨0, rfl⟩, ⟨0, rfl⟩, 3, rfl⟩

theorem witness_DataRegistersStoreAllBits : Reg.msgLen ∈ [Reg.keyLen, .ivLen, .msgLen, .nLo, .nHi] ∧
    (∃ k, Reg.iv 7 = .iv k) ∧ (∃ k, Reg.din 0 = .din k) ∧ Reg.iv 6 ≠ .iv 7 := ⟨by decide, ⟨7, rfl⟩, ⟨0, rfl⟩, by decide⟩

theorem witness_CtrlWritesResetOrSetIrqEn : (0x00000003#32).getLsbD 1 = true ∧ (0x00000001#32).getLsbD 1 = false := by
  decide

theorem witness_WrkeyLoadsTheKey : (withN 15#64).busy = false ∧ (withN 15#64).schedule = [] := ⟨rfl, rfl⟩

theorem witness_ResetClearsEveryField :
    ({ inPass true 2 with schedule := [.powerOnReset] } : State).schedule = .powerOnReset :: [] ∧
    (0x00000002#32).getLsbD 1 = true := ⟨rfl, by decide⟩

theorem witness_ResetWhileBusyAbandonsTheCommand :
    let s := { running .factorize (withN 15#64) with schedule := [.powerOnReset] }
    s.busy = true ∧ (0x00000003#32).getLsbD 1 = true ∧ s.schedule = .powerOnReset :: [] ∧
    step s = .next (engineReset (takeTurn s)) := ⟨rfl, by decide, rfl, rfl⟩

theorem witness_NopExecutes : keyed.busy = false ∧ InFlightIs .nop (snapshot keyed) (running .nop keyed) ∧
    InFlightIs (.illegalRsvdBit8 0x00000100#32) (snapshot keyed) (running (.illegalRsvdBit8 0x00000100#32) keyed) :=
  ⟨rfl, running_inFlightIs (by decide) keyed, running_inFlightIs (by decide) keyed⟩

theorem witness_ZeroizeExecutes : InFlightIs .zeroize (snapshot (inPass true 2)) (running .zeroize (inPass true 2)) :=
  running_inFlightIs (by decide) _

/-- In a pass; outside one with KEY_LEN 31 and 33; outside one with KEY_LEN 32. -/
theorem witness_KeyExpandExecutes :
    (InFlightIs .keyExpand (snapshot (inPass false 2)) (running .keyExpand (inPass false 2)) ∧
      (running .keyExpand (inPass false 2)).passActive = true) ∧
    (∀ len ∈ [31#32, 33#32], InFlightIs .keyExpand (snapshot { keyed with keyLen := len })
        (running .keyExpand { keyed with keyLen := len }) ∧
      (running .keyExpand { keyed with keyLen := len }).passActive = false ∧
      (snapshot { keyed with keyLen := len }).keyLen ≠ 32) ∧
    (InFlightIs .keyExpand (snapshot keyed) (running .keyExpand keyed) ∧
      (running .keyExpand keyed).passActive = false ∧ (snapshot keyed).keyLen = 32) := by
  refine ⟨⟨running_inFlightIs (by decide) _, rfl⟩, fun len h => ⟨running_inFlightIs (by decide) _, rfl, ?_⟩,
    running_inFlightIs (by decide) _, rfl, rfl⟩
  simp only [List.mem_cons, List.not_mem_nil, or_false] at h
  rcases h with rfl | rfl <;> decide

/-- In a pass; outside one without a schedule; outside one with a schedule. -/
theorem witness_EncBlockExecutes :
    (InFlightIs .encBlock (snapshot (inPass false 2)) (running .encBlock (inPass false 2)) ∧
      (running .encBlock (inPass false 2)).passActive = true) ∧
    (InFlightIs .encBlock (snapshot keyed) (running .encBlock keyed) ∧ (running .encBlock keyed).passActive = false ∧
      (running .encBlock keyed).keyValid = false) ∧
    (InFlightIs .encBlock (snapshot expanded) (running .encBlock expanded) ∧
      (running .encBlock expanded).passActive = false ∧ (running .encBlock expanded).keyValid = true) :=
  ⟨⟨running_inFlightIs (by decide) _, rfl⟩, ⟨running_inFlightIs (by decide) _, rfl, rfl⟩,
    running_inFlightIs (by decide) _, rfl, rfl⟩

/-- In a pass; outside one without a schedule; outside one with a schedule. -/
theorem witness_DecBlockExecutes :
    (InFlightIs .decBlock (snapshot (inPass false 2)) (running .decBlock (inPass false 2)) ∧
      (running .decBlock (inPass false 2)).passActive = true) ∧
    (InFlightIs .decBlock (snapshot keyed) (running .decBlock keyed) ∧ (running .decBlock keyed).passActive = false ∧
      (running .decBlock keyed).keyValid = false) ∧
    (InFlightIs .decBlock (snapshot expanded) (running .decBlock expanded) ∧
      (running .decBlock expanded).passActive = false ∧ (running .decBlock expanded).keyValid = true) :=
  ⟨⟨running_inFlightIs (by decide) _, rfl⟩, ⟨running_inFlightIs (by decide) _, rfl, rfl⟩,
    running_inFlightIs (by decide) _, rfl, rfl⟩

/-- Lengths that no clause of a pass start but the named one takes: a short key; a short IV; one byte too many; no
byte; one block; the longest message. -/
theorem witness_IgeStart_lengths :
    31#32 ≠ 32 ∧ 33#32 ≠ 32 ∧ 0#32 ≠ 32 ∧ (1#32).toNat % 16 ≠ 0 ∧ (17#32).toNat % 16 ≠ 0 ∧
    (0xFFFFFFFF#32).toNat % 16 ≠ 0 ∧ ((16#32).toNat % 16 = 0 ∧ 16#32 ≠ 0) ∧
    ((0xFFFFFFF0#32).toNat % 16 = 0 ∧ 0xFFFFFFF0#32 ≠ 0) := by decide

/-- One case for each of the six clauses: in a pass, a key of 31, an IV of 31, a message of 17, of 0 and of 16 bytes. -/
theorem witness_IgeEncStartExecutes :
    (∀ s : State, InFlightIs .igeEncStart (snapshot s) (running .igeEncStart s)) ∧
    (running .igeEncStart (inPass false 1)).passActive = true ∧
    (let s := { keyed with keyLen := 31#32 }; (running .igeEncStart s).passActive = false ∧ (snapshot s).keyLen ≠ 32) ∧
    (let s := { keyed with ivLen := 31#32 }; (running .igeEncStart s).passActive = false ∧ (snapshot s).keyLen = 32 ∧
      (snapshot s).ivLen ≠ 32) ∧
    (let s := { keyed with msgLen := 17#32 }; (running .igeEncStart s).passActive = false ∧ (snapshot s).keyLen = 32 ∧
      (snapshot s).ivLen = 32 ∧ (snapshot s).msgLen.toNat % 16 ≠ 0) ∧
    (let s := { keyed with msgLen := 0#32 }; (running .igeEncStart s).passActive = false ∧ (snapshot s).keyLen = 32 ∧
      (snapshot s).ivLen = 32 ∧ (snapshot s).msgLen = 0) ∧
    (let s := { keyed with msgLen := 16#32 }; (running .igeEncStart s).passActive = false ∧ (snapshot s).keyLen = 32 ∧
      (snapshot s).ivLen = 32 ∧ (snapshot s).msgLen.toNat % 16 = 0 ∧ (snapshot s).msgLen ≠ 0) :=
  ⟨fun s => running_inFlightIs (by decide) s, by decide +kernel⟩

/-- One case for each of the six clauses: in a pass, a key of 31, an IV of 31, a message of 17, of 0 and of 16 bytes. -/
theorem witness_IgeDecStartExecutes :
    (∀ s : State, InFlightIs .igeDecStart (snapshot s) (running .igeDecStart s)) ∧
    (running .igeDecStart (inPass false 1)).passActive = true ∧
    (let s := { keyed with keyLen := 31#32 }; (running .igeDecStart s).passActive = false ∧ (snapshot s).keyLen ≠ 32) ∧
    (let s := { keyed with ivLen := 31#32 }; (running .igeDecStart s).passActive = false ∧ (snapshot s).keyLen = 32 ∧
      (snapshot s).ivLen ≠ 32) ∧
    (let s := { keyed with msgLen := 17#32 }; (running .igeDecStart s).passActive = false ∧ (snapshot s).keyLen = 32 ∧
      (snapshot s).ivLen = 32 ∧ (snapshot s).msgLen.toNat % 16 ≠ 0) ∧
    (let s := { keyed with msgLen := 0#32 }; (running .igeDecStart s).passActive = false ∧ (snapshot s).keyLen = 32 ∧
      (snapshot s).ivLen = 32 ∧ (snapshot s).msgLen = 0) ∧
    (let s := { keyed with msgLen := 16#32 }; (running .igeDecStart s).passActive = false ∧ (snapshot s).keyLen = 32 ∧
      (snapshot s).ivLen = 32 ∧ (snapshot s).msgLen.toNat % 16 = 0 ∧ (snapshot s).msgLen ≠ 0) :=
  ⟨fun s => running_inFlightIs (by decide) s, by decide +kernel⟩

/-- Outside a pass, and in a pass of either direction with one block left and with two. -/
theorem witness_IgeStepExecutes : (∀ s : State, InFlightIs .igeStep (snapshot s) (running .igeStep s)) ∧
    (running .igeStep keyed).passActive = false ∧
    (∀ dir : Bool, (running .igeStep (inPass dir 1)).passActive = true ∧ (running .igeStep (inPass dir 1)).passDir = dir ∧
      (running .igeStep (inPass dir 1)).blkRemain = 1 ∧ (running .igeStep (inPass dir 2)).passActive = true ∧
      (running .igeStep (inPass dir 2)).passDir = dir ∧ (running .igeStep (inPass dir 2)).blkRemain ≠ 1) :=
  ⟨fun s => running_inFlightIs (by decide) s, rfl, fun _ => ⟨rfl, rfl, rfl, rfl, rfl, by decide +kernel +revert⟩⟩

theorem witness_IgeAbortExecutes : (∀ s : State, InFlightIs .igeAbort (snapshot s) (running .igeAbort s)) ∧
    (running .igeAbort keyed).passActive = false ∧ (running .igeAbort (inPass true 1)).passActive = true :=
  ⟨fun s => running_inFlightIs (by decide) s, rfl, rfl⟩

/-- A one-block and a two-block pass, of either direction. -/
theorem witness_PassFollowsTheChainingLaw (dir : Bool) (b1 b2 : Block) :
    (inPass dir 1).busy = false ∧ (inPass dir 1).passActive = true ∧ [b1] ≠ [] ∧
    (inPass dir 1).blkRemain.toNat = [b1].length ∧ (inPass dir 2).busy = false ∧ (inPass dir 2).passActive = true ∧
    [b1, b2] ≠ [] ∧ (inPass dir 2).blkRemain.toNat = [b1, b2].length :=
  ⟨rfl, rfl, by simp, rfl, rfl, rfl, by simp, rfl⟩

theorem witness_IgePassesRoundTrip (b1 b2 : Block) : keyed.busy = false ∧ keyed.passActive = false ∧ keyed.keyLen = 32 ∧
    keyed.ivLen = 32 ∧ [b1, b2] ≠ [] ∧ keyed.msgLen.toNat = 16 * [b1, b2].length :=
  ⟨rfl, rfl, rfl, rfl, by simp, rfl⟩

theorem witness_SboxesAreTheAffineInverse : (0x01#8 : Byte) ≠ 0#8 ∧ gmul 0x53#8 0xCA#8 = 0x01#8 := by decide +kernel

/-- The states between the rounds: for every schedule and block there is a naming of them as the two sequences ask. -/
theorem roundStates_exist (w : Schedule) (b : Block) :
    (∃ st : Nat → Block, st 0 = addRoundKey w 0 b ∧
      ∀ r, 1 ≤ r → r ≤ 13 → st r = addRoundKey w r (mixColumns (shiftRows (subBytes (st (r - 1)))))) ∧
    (∃ st : Nat → Block, st 14 = addRoundKey w 14 b ∧
      ∀ r, 1 ≤ r → r ≤ 13 → st r = invMixColumns (addRoundKey w r (invSubBytes (invShiftRows (st (r + 1)))))) := by
  let up : Nat → Block := fun n => Nat.rec (addRoundKey w 0 b) (fun k s => cipherRound w s (k + 1)) n
  let down : Nat → Block := fun n => Nat.rec (addRoundKey w 14 b) (fun k s => invCipherRound w s (13 - k)) n
  refine ⟨⟨up, rfl, fun r h1 _ => ?_⟩, ⟨fun r => down (14 - r), rfl, fun r h1 h2 => ?_⟩⟩
  · obtain ⟨k, rfl⟩ := Nat.exists_eq_add_of_le' h1
    rfl
  · obtain ⟨k, hk⟩ := Nat.exists_eq_add_of_le h2
    have e1 : 14 - r = k + 1 := by omega
    have e2 : 14 - (r + 1) = k := by omega
    have e3 : 13 - k = r := by omega
    simp only [e1, e2]
    change invCipherRound w (down k) (13 - k) = _
    rw [e3]
    rfl

theorem witness_CipherAndInvCipherAreInverse :
    (∃ st : Nat → Block, st 0 = addRoundKey expanded.w 0 (unpackBlock (inPass true 1).din) ∧
      ∀ r, 1 ≤ r → r ≤ 13 → st r = addRoundKey expanded.w r (mixColumns (shiftRows (subBytes (st (r - 1)))))) ∧
    (∃ st : Nat → Block, st 14 = addRoundKey expanded.w 14 (unpackBlock (inPass true 1).din) ∧
      ∀ r, 1 ≤ r → r ≤ 13 →
        st r = invMixColumns (addRoundKey expanded.w r (invSubBytes (invShiftRows (st (r + 1)))))) :=
  roundStates_exist _ _

theorem witness_KeyExpansionRecurrence : (8 ≤ 8 ∧ 8 < 60) ∧ (8 ≤ 59 ∧ 59 < 60) := by decide

theorem withN_inFlightIs :
    (∀ n : BitVec 64, InFlightIs .factorize (snapshot (withN n)) (running .factorize (withN n))) ∧
    [0#64, 3#64, 4#64, 5#64, 105#64, 9#64, 12884901933#64, 15#64, 67591#64].all
      (fun n => (snapshot (withN n)).n == n) = true :=
  ⟨fun _ => running_inFlightIs (by decide) _, by decide +kernel⟩

/-- The edges of the three pre-checks: 0 and 3; 4; 5 (with `withN_inFlightIs`). -/
theorem witness_FactorizeExecutes_preChecks : ((0#64).toNat ≤ 3 ∧ (3#64).toNat ≤ 3) ∧
    (3 < (4#64).toNat ∧ (4#64).toNat % 2 = 0) ∧
    (3 < (5#64).toNat ∧ (5#64).toNat % 2 = 1 ∧ isPrime (5#64).toNat = true) := by decide +kernel

/-- 105 = 3 · 5 · 7: the cofactor 35 is no prime. -/
theorem witness_FactorizeExecutes_notSemiprime : (105#64).toNat = 105 ∧ isPrime 105 = false ∧
    (findFactor tgcFactParams 105).factor = some 3 ∧ min 3 (105 / 3) = 3 ∧ max 3 (105 / 3) = 35 ∧ isPrime 35 = false := by
  decide +kernel

/-- 9 = 3 · 3. -/
theorem witness_FactorizeExecutes_square : (9#64).toNat = 9 ∧ isPrime 9 = false ∧
    (findFactor tgcFactParams 9).factor = some 3 ∧ min 3 (9 / 3) = 3 ∧ max 3 (9 / 3) = 3 ∧ isPrime 3 = true := by
  decide +kernel

/-- 12884901933 = 3 · 4294967311: the cofactor is a prime above 2^32. -/
theorem witness_FactorizeExecutes_tooLarge : (12884901933#64).toNat = 12884901933 ∧ isPrime 12884901933 = false ∧
    (findFactor tgcFactParams 12884901933).factor = some 3 ∧ min 3 (12884901933 / 3) = 3 ∧
    max 3 (12884901933 / 3) = 4294967311 ∧ isPrime 3 = true ∧ isPrime 4294967311 = true := by decide +kernel

/-- 15 = 3 · 5. -/
theorem witness_FactorizeExecutes_pair : (15#64).toNat = 15 ∧ isPrime 15 = false ∧
    (findFactor tgcFactParams 15).factor = some 3 ∧ min 3 (15 / 3) = 3 ∧ max 3 (15 / 3) = 5 ∧ isPrime 3 = true ∧
    isPrime 5 = true := by decide +kernel

/-- 67591 = 257 · 263 with FACT_ATTEMPTS = 2 and RHO_R_LIMIT = 4 (95_test_vectors.md section 5.3). -/
theorem witness_FactorizeExecutes_exhausted : (67591#64).toNat = 67591 ∧ 67591 % 2 = 1 ∧
    isPrimeWith tgcFactParams.mrBases 67591 = false ∧
    (findFactor { tgcFactParams with attempts := 2, rhoRLimit := 4 } 67591).factor = none := by decide +kernel

theorem witness_IsPrimeAcceptsEveryPrime : Nat.Prime 2 ∧ Nat.Prime 41 := by constructor <;> norm_num

theorem witness_TrialDivisionFindsTheLeastPrime : trialDivide tgcFactParams.trialPrimes 15 = some 3 ∧
    trialDivide tgcFactParams.trialPrimes 251 = some 251 ∧ trialDivide tgcFactParams.trialPrimes 67591 = none := by decide

theorem witness_RhoFactorIsProper : 0 < 67591 ∧ (brentAttempt tgcFactParams 67591 1).factor = some 257 := by
  decide +kernel

/-- 79927: the first attempt fails and the second gives 257; 67591 with two short attempts: both fail
(95_test_vectors.md sections 5.2, 5.3). -/
theorem witness_RhoWorkIsBounded :
    let short := { tgcFactParams with attempts := 2, rhoRLimit := 4 }
    (trialDivide tgcFactParams.trialPrimes 79927 = none ∧ 1 ≤ 2 ∧ 2 ≤ tgcFactParams.attempts ∧
      (brentAttempt tgcFactParams 79927 1).factor = none ∧ (brentAttempt tgcFactParams 79927 2).factor = some 257) ∧
    (trialDivide short.trialPrimes 67591 = none ∧ (brentAttempt short 67591 1).factor = none ∧
      (brentAttempt short 67591 2).factor = none ∧ short.attempts = 2) := by decide +kernel

theorem witness_SuccessfulFactorizationIsCorrect : (factorizeWith tgcFactParams 67591).outcome = .factors 257 263 := by
  decide +kernel

theorem witness_SmallSemiprimesFactor : (Nat.Prime 3 ∧ Nat.Prime 5 ∧ 3 ≤ 3 ∧ 3 ≤ 37 ∧ 3 < 5 ∧ 5 < 2 ^ 32) ∧
    (Nat.Prime 37 ∧ Nat.Prime 41 ∧ 3 ≤ 37 ∧ 37 ≤ 37 ∧ 37 < 41 ∧ 41 < 2 ^ 32) := by
  norm_num

/-- A state with a command in flight that satisfies the engine's invariant. -/
theorem busy_engineInv : EngineInv (running .nop State.reset) where
  status := ⟨fun _ => ⟨rfl, rfl⟩, nofun, by decide, fun _ => rfl⟩
  listedError := nofun
  inflight := ⟨⟨fun _ => rfl, fun _ => rfl⟩, fun f h => by cases h; decide, fun f h => by cases h; decide⟩
  pass := ⟨nofun, fun _ => rfl, fun _ => rfl, fun _ => rfl, nofun, nofun, by decide⟩
  schedule := ⟨nofun, fun _ => rfl⟩

theorem witness_StepKeepsTheEngineInvariant : EngineInv (running .nop State.reset) ∧
    step (running .nop State.reset) = .next (completeOk (running .nop State.reset)) := ⟨busy_engineInv, rfl⟩

theorem witness_StepKeepsTheFactorInvariant : FactInv (running .nop State.reset) ∧
    step (running .nop State.reset) = .next (completeOk (running .nop State.reset)) :=
  ⟨⟨.inl ⟨rfl, rfl⟩, by decide, by decide⟩, rfl⟩

theorem witness_InvariantStatesNeverStop : EngineInv (running .nop State.reset) := busy_engineInv

theorem witness_BusyEngineComesToRest : EngineInv (running .nop State.reset) ∧ (running .nop State.reset).busy = true :=
  ⟨busy_engineInv, rfl⟩

end Sys2Proof.Tests
end

section
/-! PROOFS. The decoder gives a well-formed instruction whose word is the one decoded (30_encoding.md R91, R93, R95). -/

namespace Sys2Proof.Proofs

/-- `i` is well formed and its command word is `w`: what the decoder owes to `w`. -/
def WordOf (i : Instr) (w : Word) : Prop := i.wellFormed = true ∧ encode i = w

/-- Masking the low `k` bits away is shifting them out and back in. -/
theorem and_allOnes_shiftLeft (w : Word) (k : Nat) : w &&& (BitVec.allOnes 32 <<< k) = (w >>> k) <<< k := by
  ext i hi
  by_cases h : i < k
  · simp [h]
  · simp [h, hi, show k + (i - k) = i by omega, -BitVec.reduceAllOnes]

/-- A row whose mask keeps the bits from `k` up selects a word by its quotient by 2^k (30_encoding.md R91). -/
theorem selects_of_div_eq {w mask pattern : Word} (k c : Nat) (hmask : mask = BitVec.allOnes 32 <<< k)
    (hpattern : pattern = BitVec.ofNat 32 c <<< k) (h : w.toNat / 2 ^ k = c) : selects mask pattern w = true := by
  have hw : w >>> k = BitVec.ofNat 32 c := by
    apply BitVec.eq_of_toNat_eq
    have hlt : c < 2 ^ 32 := h ▸ (Nat.div_le_self _ _).trans_lt w.isLt
    rw [BitVec.toNat_ushiftRight, Nat.shiftRight_eq_div_pow, h, BitVec.toNat_ofNat, Nat.mod_eq_of_lt hlt]
  rw [selects, hmask, hpattern, and_allOnes_shiftLeft, hw, beq_self_eq_true]

/-- One test of the chain of reserved bits: where no bit above `k` is set, bit `k` says whether it is the highest. -/
theorem wordOf_ite_bit {w v : Word} {k : Nat} {i j : Instr} (hz : w.toNat / 2 ^ (k + 1) = 0)
    (hi : w.toNat / 2 ^ k = 1 → WordOf i v) (hj : w.toNat / 2 ^ k = 0 → WordOf j v) :
    WordOf (if w.getLsbD k = true then i else j) v := by
  rw [Nat.pow_succ, ← Nat.div_div_eq_div_mul] at hz
  split
  · rename_i hbit
    rw [BitVec.getLsbD, Nat.testBit_eq_decide_div_mod_eq, decide_eq_true_eq] at hbit
    exact hi (by omega)
  · rename_i hbit
    rw [BitVec.getLsbD, Nat.testBit_eq_decide_div_mod_eq, decide_eq_true_eq] at hbit
    exact hj (by omega)

/-- One test of a chain of conditions on the word. -/
theorem wordOf_ite {p : Prop} [Decidable p] {w : Word} {i j : Instr} (hi : p → WordOf i w) (hj : ¬p → WordOf j w) :
    WordOf (if p then i else j) w := by
  split
  · rename_i h
    exact hi h
  · rename_i h
    exact hj h

theorem opcodeField_toNat (w : Word) : (opcodeField w).toNat = w.toNat % 2 ^ 8 := by
  simp [opcodeField]

theorem rsvdField_eq_zero_iff (w : Word) : rsvdField w = 0 ↔ w.toNat / 2 ^ 8 = 0 := by
  have hw := w.isLt
  rw [← BitVec.toNat_inj, rsvdField, BitVec.extractLsb'_toNat, Nat.shiftRight_eq_div_pow]
  simp only [BitVec.ofNat_eq_ofNat, BitVec.toNat_ofNat]
  omega

theorem wordOf_decodeReserved {w : Word} (h : rsvdField w ≠ 0) : WordOf (decodeReserved w) w := by
  have hr : w.toNat / 2 ^ 8 ≠ 0 := (rsvdField_eq_zero_iff w).not.mp h
  have hz : w.toNat / 2 ^ 32 = 0 := Nat.div_eq_of_lt w.isLt
  unfold decodeReserved
  -- the 23 tested bits 31 to 9, each with its own row; what is left has bit 8 as its highest
  iterate 23
    refine wordOf_ite_bit hz (fun hk => ⟨selects_of_div_eq _ 1 (by decide) (by decide) hk, rfl⟩) fun hz => ?_
  exact ⟨selects_of_div_eq 8 1 (by decide) (by decide) (by omega), rfl⟩

/-- With RSVD = 0 the word is its opcode. -/
theorem eq_of_opcodeField_eq {w : Word} {c : Byte} (hr : rsvdField w = 0) (h : opcodeField w = c) :
    w = c.setWidth 32 := by
  rw [rsvdField_eq_zero_iff] at hr
  have hc := congrArg BitVec.toNat h
  rw [opcodeField_toNat] at hc
  apply BitVec.eq_of_toNat_eq
  rw [BitVec.toNat_setWidth]
  omega

theorem wordOf_decodeOpcode {w : Word} (h : rsvdField w = 0) : WordOf (decodeOpcode w) w := by
  have hr := (rsvdField_eq_zero_iff w).mp h
  have ho := opcodeField_toNat w
  unfold decodeOpcode
  iterate 10
    refine wordOf_ite (fun hc => ⟨rfl, (eq_of_opcodeField_eq h hc).symm⟩) fun _ => ?_
  refine wordOf_ite (fun _ => ⟨selects_of_div_eq 1 5 (by decide) (by decide) (by bv_omega), rfl⟩) fun _ => ?_
  refine wordOf_ite (fun _ => ⟨selects_of_div_eq 2 3 (by decide) (by decide) (by bv_omega), rfl⟩) fun _ => ?_
  refine wordOf_ite (fun _ => ⟨selects_of_div_eq 4 1 (by decide) (by decide) (by bv_omega), rfl⟩) fun _ => ?_
  refine wordOf_ite (fun _ => ⟨selects_of_div_eq 5 1 (by decide) (by decide) (by bv_omega), rfl⟩) fun _ => ?_
  refine wordOf_ite (fun _ => ⟨selects_of_div_eq 6 1 (by decide) (by decide) (by bv_omega), rfl⟩) fun _ => ?_
  exact ⟨selects_of_div_eq 7 1 (by decide) (by decide) (by bv_omega), rfl⟩

theorem wordOf_decode (w : Word) : WordOf (decode w) w := by
  unfold decode
  exact wordOf_ite wordOf_decodeReserved fun h => wordOf_decodeOpcode (not_not.mp h)

theorem decode_wellFormed (w : Word) : (decode w).wellFormed = true := (wordOf_decode w).1

@[simp] theorem encode_decode (w : Word) : encode (decode w) = w := (wordOf_decode w).2

end Sys2Proof.Proofs
end

section
/-! PROOFS. Host reads and writes at a register's offset, and the statements about single registers: reads (O15), key
material (O24), CTRL (O25), IRQ_STATUS (O26), STATUS (O27) and the reset values (O33). -/

namespace Sys2Proof.Proofs

open Sys2Proof.Machine Sys2Proof.Safety

theorem mem_index4 : ∀ k : Fin 4, k ∈ index4 := by decide

theorem mem_index8 : ∀ k : Fin 8, k ∈ index8 := by decide

theorem mem_allRegs (r : Reg) : r ∈ allRegs := by
  cases r <;> simp [allRegs, controlRegs, counterRegs, mem_index4, mem_index8]

/-- The window decodes a register's own offset to that register (20_memory.md R61). -/
@[simp] theorem regAt_regOffset (r : Reg) : regAt (regOffset r) = some r :=
  (by decide : ∀ r ∈ allRegs, regAt (regOffset r) = some r) r (mem_allRegs r)

theorem hostRead_regOffset (r : Reg) (s : State) : hostRead (regOffset r) 4 s = .data (readReg s r) := by
  simp [hostRead]

theorem hostWrite_regOffset {r : Reg} (hr : regAccess r ≠ .ro) (v : Word) (s : State) :
    hostWrite (regOffset r) 4 v s = writeReg r v s := by
  simp [hostWrite, hr]

/-- A scheduled host turn is the next operation of the host's program. -/
theorem step_of_hostOp {s : State} {op : HostOp} {rest : List HostOp} {turns : List Turn}
    (hsched : s.schedule = .host :: turns) (hprog : s.program = op :: rest) :
    step s = .next (hostOp op rest { s with schedule := turns }) := by
  simp [step, turnOf, takeTurn, hostTurn, hsched, hprog]

/-- A register's value does not depend on the turns to come. -/
theorem hostRead_withSchedule (s : State) (turns : List Turn) (off size : Nat) :
    hostRead off size { s with schedule := turns } = hostRead off size s := by
  have hreg (r : Reg) : readReg { s with schedule := turns } r = readReg s r := by cases r <;> rfl
  simp only [hostRead, hreg]

/-- Settles O15: the step is the host's turn by definition, and each value is the read at that register's offset. -/
theorem hostReadStepHasNoSideEffect : Obligations.HostReadStepHasNoSideEffect := by
  refine ⟨fun s off size rest turns hsched hprog => ?_, fun s => ?_⟩
  · rw [step_of_hostOp hsched hprog, hostOp, hostRead_withSchedule]
  · have read := fun r => hostRead_regOffset r s
    exact ⟨⟨read .id, read .blkRemain, read .blkDone, read .factP, read .factQ, read .factSteps, read .factC⟩,
      fun k => ⟨read (.dout k), read (.chc k), read (.chp k)⟩,
      ⟨read .keyLen, read .ivLen, read .msgLen, read .nLo, read .nHi⟩,
      fun k => read (.iv k), fun k => read (.din k)⟩

/-- No register shows KEY or W: KEYk reads 0 and W is in no register (10_state.md R21, R29). -/
theorem readReg_withKeyMaterial (s : State) (key : Vector Word 8) (w : Schedule) (r : Reg) :
    readReg { s with key := key, w := w } r = readReg s r := by
  cases r <;> rfl

/-- Settles O24: the bus's answer depends on the state through `readReg` alone. -/
theorem keyMaterialIsUnreadable : Obligations.KeyMaterialIsUnreadable := by
  intro s key w off size
  simp only [hostRead, readReg_withKeyMaterial]

/-- CTRL shows IRQ_EN and nothing else (10_state.md R26). -/
theorem ctrlWord_eq (s : State) : ctrlWord s = if s.irqEn then 1#32 else 0#32 := by
  unfold ctrlWord
  cases s.irqEn <;> rfl

/-- Settles O25, by the two cases of `writeCtrl`. -/
theorem ctrlWritesResetOrSetIrqEn : Obligations.CtrlWritesResetOrSetIrqEn := by
  refine ⟨rfl, fun v s => ?_⟩
  have hwrite : hostWrite 0x004 4 v s = writeCtrl v s := hostWrite_regOffset (r := .ctrl) (by decide) v s
  have hread : hostRead 0x004 4 s = .data (ctrlWord s) := hostRead_regOffset .ctrl s
  refine ⟨fun hsrst => ?_, fun hsrst => ?_, by rw [hread, ctrlWord_eq]⟩
  · have hreset : hostWrite 0x004 4 v s = engineReset s := by rw [hwrite, writeCtrl, if_pos hsrst]
    exact ⟨hreset, by rw [hreset, engineReset_irqEn]⟩
  · rw [hwrite, writeCtrl, if_neg (Bool.eq_false_iff.mp hsrst)]

/-- IRQ_STATUS shows its three bits and nothing else (10_state.md R27). -/
theorem irqStatusWord_eq (s : State) : irqStatusWord s =
    (if s.doneP then 1#32 else 0#32) + (if s.errP then 2#32 else 0#32) + (if s.ovrP then 4#32 else 0#32) := by
  unfold irqStatusWord
  cases s.doneP <;> cases s.errP <;> cases s.ovrP <;> rfl

/-- Settles O26: a bit survives the write exactly where it is written 0. -/
theorem irqStatusWritesClearOnes : Obligations.IrqStatusWritesClearOnes := by
  intro v s
  have clears (pending one : Bool) : (pending && !one) = if one then false else pending := by
    cases one <;> simp
  constructor
  · rw [show hostWrite 0x010 4 v s = writeIrqStatus v s from hostWrite_regOffset (r := .irqStatus) (by decide) v s]
    simp only [writeIrqStatus, clears]
  · rw [show hostRead 0x010 4 s = .data (irqStatusWord s) from hostRead_regOffset .irqStatus s, irqStatusWord_eq]

theorem statusWord_flags (s : State) :
    (statusWord s).getLsbD 0 = s.busy ∧ (statusWord s).getLsbD 1 = s.done ∧ (statusWord s).getLsbD 2 = s.err ∧
    (statusWord s).getLsbD 3 = s.keyValid ∧ (statusWord s).getLsbD 4 = s.passActive ∧
    (statusWord s).getLsbD 5 = s.passDir := by
  simp only [statusWord, BitVec.getLsbD_append]
  simp

theorem statusWord_fields (s : State) :
    (statusWord s).extractLsb' 6 2 = 0#2 ∧ (statusWord s).extractLsb' 8 4 = s.errCode ∧
    (statusWord s).extractLsb' 12 4 = s.subCause ∧ (statusWord s).extractLsb' 16 8 = s.lastOp ∧
    (statusWord s).extractLsb' 24 8 = 0#8 := by
  unfold statusWord
  simp (disch := omega) only [BitVec.extractLsb'_append_eq_of_le]
  exact ⟨BitVec.extractLsb'_append_eq_right, BitVec.extractLsb'_append_eq_right, BitVec.extractLsb'_append_eq_right,
    BitVec.extractLsb'_append_eq_right, rfl⟩

/-- Settles O27: STATUS is its fields one after another, so each bit range is one of them. -/
theorem statusShowsItsFields : Obligations.StatusShowsItsFields := by
  intro s
  obtain ⟨hbusy, hdone, herr, hkey, hactive, hdir⟩ := statusWord_flags s
  exact ⟨hostRead_regOffset .status s, hbusy, hdone, herr, hkey, hactive, hdir, statusWord_fields s⟩

/-- Settles O33: the fields by evaluation, the reads as the registers' values at reset. -/
theorem resetStateHoldsTheTable : Obligations.ResetStateHoldsTheTable := by
  refine ⟨?_, ?_, ?_, ?_, ?_, ?_, ?_⟩
  case refine_7 =>
    have read := fun r => hostRead_regOffset r State.reset
    exact ⟨read .id, read .status, read .irqStatus, read .ctrl⟩
  all_goals decide

end Sys2Proof.Proofs
end

section
/-! PROOFS. What the commands do to the state: how a completion ends, the few effects a rule can have, and the frame of
all 40 instructions (O11). -/

namespace Sys2Proof.Proofs

open Sys2Proof.Machine Sys2Proof.Safety

/-- The state a rule leaves for the completion: the command's own writes (30_encoding.md R99). -/
def endState : ExecResult → State
  | .completes s => s
  | .raises _ s => s

@[simp] theorem endState_completes (s : State) : endState (.completes s) = s := rfl
@[simp] theorem endState_raises (e : CmdError) (s : State) : endState (.raises e s) = s := rfl

section Finish

variable (r : ExecResult)

/-! ### The completion keeps every field but the record of its end -/

@[simp] theorem finish_key : (finish r).key = (endState r).key := by cases r <;> rfl
@[simp] theorem finish_keyLen : (finish r).keyLen = (endState r).keyLen := by cases r <;> rfl
@[simp] theorem finish_iv : (finish r).iv = (endState r).iv := by cases r <;> rfl
@[simp] theorem finish_ivLen : (finish r).ivLen = (endState r).ivLen := by cases r <;> rfl
@[simp] theorem finish_msgLen : (finish r).msgLen = (endState r).msgLen := by cases r <;> rfl
@[simp] theorem finish_din : (finish r).din = (endState r).din := by cases r <;> rfl
@[simp] theorem finish_nLo : (finish r).nLo = (endState r).nLo := by cases r <;> rfl
@[simp] theorem finish_nHi : (finish r).nHi = (endState r).nHi := by cases r <;> rfl
@[simp] theorem finish_dout : (finish r).dout = (endState r).dout := by cases r <;> rfl
@[simp] theorem finish_factP : (finish r).factP = (endState r).factP := by cases r <;> rfl
@[simp] theorem finish_factQ : (finish r).factQ = (endState r).factQ := by cases r <;> rfl
@[simp] theorem finish_factSteps : (finish r).factSteps = (endState r).factSteps := by cases r <;> rfl
@[simp] theorem finish_factC : (finish r).factC = (endState r).factC := by cases r <;> rfl
@[simp] theorem finish_chc : (finish r).chc = (endState r).chc := by cases r <;> rfl
@[simp] theorem finish_chp : (finish r).chp = (endState r).chp := by cases r <;> rfl
@[simp] theorem finish_blkRemain : (finish r).blkRemain = (endState r).blkRemain := by cases r <;> rfl
@[simp] theorem finish_blkDone : (finish r).blkDone = (endState r).blkDone := by cases r <;> rfl
@[simp] theorem finish_passActive : (finish r).passActive = (endState r).passActive := by cases r <;> rfl
@[simp] theorem finish_passDir : (finish r).passDir = (endState r).passDir := by cases r <;> rfl
@[simp] theorem finish_w : (finish r).w = (endState r).w := by cases r <;> rfl
@[simp] theorem finish_keyValid : (finish r).keyValid = (endState r).keyValid := by cases r <;> rfl
@[simp] theorem finish_irqEn : (finish r).irqEn = (endState r).irqEn := by cases r <;> rfl
@[simp] theorem finish_ovrP : (finish r).ovrP = (endState r).ovrP := by cases r <;> rfl
@[simp] theorem finish_lastOp : (finish r).lastOp = (endState r).lastOp := by cases r <;> rfl
@[simp] theorem finish_program : (finish r).program = (endState r).program := by cases r <;> rfl
@[simp] theorem finish_schedule : (finish r).schedule = (endState r).schedule := by cases r <;> rfl
@[simp] theorem finish_resp : (finish r).resp = (endState r).resp := by cases r <;> rfl
@[simp] theorem finish_busy : (finish r).busy = false := by cases r <;> rfl
@[simp] theorem finish_done : (finish r).done = true := by cases r <;> rfl
@[simp] theorem finish_inflight : (finish r).inflight = none := by cases r <;> rfl

end Finish

/-! ### The effects of the rules -/

/-- What FACTORIZE puts into FACT_P and FACT_Q: 0 and 0 on an error, else the Factor Pair (43_factorization.md R215). -/
def Publishes (o : FactOutcome) (p q : Word) : Prop :=
  (p = 0 ∧ q = 0) ∨ ∃ a b, o = .factors a b ∧ p = BitVec.ofNat 32 a ∧ q = BitVec.ofNat 32 b

/-- `RuleEffect i s u`: the rule of instruction `i`, run at `s`, can leave `u`. Every way a command writes the state is one
of these constructors; `ruleEffect_ruleOf` ties them to `ruleOf`. -/
inductive RuleEffect : Instr → State → State → Prop where
  /-- No write: NOP, an illegal word, IGE_ABORT outside a pass, and every error but FACTORIZE's. -/
  | unchanged (i : Instr) (s : State) : RuleEffect i s s
  | keyExpand (k : Bytes32) (s : State) (hp : s.passActive = false) : RuleEffect .keyExpand s (loadSchedule k s)
  | block (i : Instr) (hi : i = .encBlock ∨ i = .decBlock) (o : Vector Word 4) (s : State) :
      RuleEffect i s { s with dout := o }
  /-- A pass of `n` blocks starts, with chaining values `c` and `p`. -/
  | igeStart (i : Instr) (hi : i = .igeEncStart ∨ i = .igeDecStart) (k : Bytes32) (c p : Vector Word 4) (n : Nat)
      (dir : Bool) (s : State) (hpos : 0 < n) (hmax : n ≤ 0x0FFFFFFF) :
      RuleEffect i s
        { loadSchedule k s with
          chc := c, chp := p, blkRemain := BitVec.ofNat 32 n, blkDone := 0, passActive := true, passDir := dir }
  /-- A block of a pass with blocks still to come. -/
  | igeStepMore (c p o : Vector Word 4) (s : State) (hp : s.passActive = true) (hmore : s.blkRemain - 1 ≠ 0) :
      RuleEffect .igeStep s (countBlock { s with chc := c, chp := p, dout := o })
  /-- The last block of a pass. -/
  | igeStepLast (c p o : Vector Word 4) (s : State) (hp : s.passActive = true) (hlast : s.blkRemain - 1 = 0) :
      RuleEffect .igeStep s (endPass (countBlock { s with chc := c, chp := p, dout := o }))
  | igeAbort (s : State) (hp : s.passActive = true) : RuleEffect .igeAbort s (endPass s)
  /-- FACTORIZE of `n`, its registers written on an error too. -/
  | factorize (n : Nat) (p q : Word) (s : State) (hpq : Publishes (factorizeWith tgcFactParams n).outcome p q) :
      RuleEffect .factorize s
        { s with
          factP := p, factQ := q, factSteps := saturate32 (factorizeWith tgcFactParams n).steps
          factC := BitVec.ofNat 32 (factorizeWith tgcFactParams n).clast }
  | zeroize (s : State) : RuleEffect .zeroize s (clearAll s)

theorem ruleEffect_keyExpandRule (S : Snapshot) (s : State) :
    RuleEffect .keyExpand s (endState (keyExpandRule S s)) := by
  obtain ⟨-, h⟩ | ⟨-, -, h⟩ | ⟨hp, -, h⟩ := keyExpandRule_cases S s <;> rw [h]
  · exact .unchanged _ s
  · exact .unchanged _ s
  · exact .keyExpand S.key s hp

theorem ruleEffect_blockRule {i : Instr} (hi : i = .encBlock ∨ i = .decBlock) (f : Schedule → Block → Block)
    (S : Snapshot) (s : State) : RuleEffect i s (endState (blockRule f S s)) := by
  obtain ⟨-, h⟩ | ⟨-, -, h⟩ | ⟨-, -, h⟩ := blockRule_cases f S s <;> rw [h]
  · exact .unchanged i s
  · exact .unchanged i s
  · exact .block i hi _ s

theorem ruleEffect_igeStartRule {i : Instr} (hi : i = .igeEncStart ∨ i = .igeDecStart) (dir : Bool) (S : Snapshot)
    (s : State) : RuleEffect i s (endState (igeStartRule dir S s)) := by
  obtain ⟨e, h⟩ | ⟨-, -, -, hmod, hne, h⟩ := igeStartRule_cases dir S s <;> rw [h]
  · exact .unchanged i s
  · -- a nonzero multiple of 16 below 2^32 is between 1 and 0x0FFFFFFF blocks
    have hlen : S.msgLen.toNat ≠ 0 := fun h0 => hne (BitVec.eq_of_toNat_eq h0)
    have hlt := S.msgLen.isLt
    exact .igeStart i hi S.key _ _ (S.msgLen.toNat / 16) dir s (by omega) (by omega)

theorem ruleEffect_igeStepRule (S : Snapshot) (s : State) : RuleEffect .igeStep s (endState (igeStepRule S s)) := by
  obtain ⟨-, h⟩ | ⟨hp, h⟩ := igeStepRule_cases S s <;> rw [h]
  · exact .unchanged _ s
  · obtain ⟨c, p, o, ht⟩ := igeTransform_cases S.din s
    rw [ht]
    obtain ⟨hr, he⟩ | ⟨hr, he⟩ := endPassIfDone_cases (countBlock { s with chc := c, chp := p, dout := o }) <;>
      rw [he]
    · exact .igeStepLast c p o s hp hr
    · exact .igeStepMore c p o s hp hr

theorem ruleEffect_igeAbortRule (S : Snapshot) (s : State) : RuleEffect .igeAbort s (endState (igeAbortRule S s)) := by
  unfold igeAbortRule
  split
  · rename_i hp
    exact .igeAbort s hp
  · exact .unchanged _ s

theorem ruleEffect_factorizeRule (S : Snapshot) (s : State) :
    RuleEffect .factorize s (endState (factorizeRule tgcFactParams S s)) := by
  unfold factorizeRule
  obtain ⟨p, q, ho, h⟩ | ⟨e, -, h⟩ := publishFactors_cases (factorizeWith tgcFactParams S.n.toNat) s <;> rw [h]
  · exact .factorize _ _ _ s (.inr ⟨p, q, ho, rfl, rfl⟩)
  · exact .factorize _ _ _ s (.inl ⟨rfl, rfl⟩)

/-- Every rule has one of the effects. -/
theorem ruleEffect_ruleOf (i : Instr) (S : Snapshot) (s : State) : RuleEffect i s (endState (ruleOf i S s)) := by
  cases i with
  | keyExpand => exact ruleEffect_keyExpandRule S s
  | encBlock => exact ruleEffect_blockRule (.inl rfl) cipher S s
  | decBlock => exact ruleEffect_blockRule (.inr rfl) invCipher S s
  | igeEncStart => exact ruleEffect_igeStartRule (.inl rfl) false S s
  | igeDecStart => exact ruleEffect_igeStartRule (.inr rfl) true S s
  | igeStep => exact ruleEffect_igeStepRule S s
  | igeAbort => exact ruleEffect_igeAbortRule S s
  | factorize => exact ruleEffect_factorizeRule S s
  | zeroize => exact .zeroize s
  | _ => exact .unchanged _ s

/-- All that executing an instruction can do: one of the effects, then the end of the completion. -/
theorem exec_next_effect {i : Instr} {s t : State} (h : exec i s = .next t) :
    ∃ r, RuleEffect i s (endState r) ∧ t = finish r := by
  obtain ⟨-, f, -, ht⟩ := exec_next h
  exact ⟨ruleOf i f.snap s, ruleEffect_ruleOf i f.snap s, ht⟩

/-! ### Frames of the effects -/

section Frames

variable {i : Instr} {s u : State}

theorem operands_of_ruleEffect (h : RuleEffect i s u) (hi : i ≠ .zeroize) :
    u.key = s.key ∧ u.keyLen = s.keyLen ∧ u.iv = s.iv ∧ u.ivLen = s.ivLen ∧ u.msgLen = s.msgLen ∧ u.din = s.din ∧
      u.nLo = s.nLo ∧ u.nHi = s.nHi := by
  cases h <;> simp at hi ⊢

theorem schedule_of_ruleEffect (h : RuleEffect i s u) (hi : i ∉ [Instr.keyExpand, .igeEncStart, .igeDecStart, .zeroize]) :
    u.w = s.w ∧ u.keyValid = s.keyValid := by
  cases h with
  | igeStart _ hstart => obtain rfl | rfl := hstart <;> simp at hi
  | _ => simp at hi ⊢

theorem dout_of_ruleEffect (h : RuleEffect i s u) (hi : i ∉ [Instr.encBlock, .decBlock, .igeStep, .zeroize]) :
    u.dout = s.dout := by
  cases h with
  | block _ hblock => obtain rfl | rfl := hblock <;> simp at hi
  | _ => simp at hi ⊢

theorem factRegisters_of_ruleEffect (h : RuleEffect i s u) (hi : i ∉ [Instr.factorize, .zeroize]) :
    u.factP = s.factP ∧ u.factQ = s.factQ ∧ u.factSteps = s.factSteps ∧ u.factC = s.factC := by
  cases h <;> simp at hi ⊢

theorem pass_of_ruleEffect (h : RuleEffect i s u)
    (hi : i ∉ [Instr.igeEncStart, .igeDecStart, .igeStep, .igeAbort, .zeroize]) :
    u.chc = s.chc ∧ u.chp = s.chp ∧ u.blkRemain = s.blkRemain ∧ u.blkDone = s.blkDone ∧
      u.passActive = s.passActive ∧ u.passDir = s.passDir := by
  cases h with
  | igeStart _ hstart => obtain rfl | rfl := hstart <;> simp at hi
  | _ => simp at hi ⊢

/-- No rule writes the interrupt controls, the record of the command or the agents outside the engine. -/
theorem controls_of_ruleEffect (h : RuleEffect i s u) :
    u.irqEn = s.irqEn ∧ u.ovrP = s.ovrP ∧ u.lastOp = s.lastOp ∧ u.program = s.program ∧ u.schedule = s.schedule ∧
      u.resp = s.resp := by
  cases h <;> simp

/-- No rule writes the error record: an error is recorded by the completion alone (60_exceptions.md R250). -/
theorem errorRecord_of_ruleEffect (h : RuleEffect i s u) :
    u.err = s.err ∧ u.errCode = s.errCode ∧ u.subCause = s.subCause := by
  cases h <;> simp

end Frames

/-- Settles O11: the frame of each effect, through the completion. -/
theorem commandsLeaveOtherStateAlone : Obligations.CommandsLeaveOtherStateAlone := by
  intro i S s t _ hexec
  obtain ⟨r, heff, rfl⟩ := exec_next_effect hexec
  simp only [finish_key, finish_keyLen, finish_iv, finish_ivLen, finish_msgLen, finish_din, finish_nLo, finish_nHi,
    finish_dout, finish_factP, finish_factQ, finish_factSteps, finish_factC, finish_chc, finish_chp, finish_blkRemain,
    finish_blkDone, finish_passActive, finish_passDir, finish_w, finish_keyValid, finish_irqEn, finish_ovrP,
    finish_lastOp, finish_program, finish_schedule, finish_resp]
  exact ⟨operands_of_ruleEffect heff, schedule_of_ruleEffect heff, dout_of_ruleEffect heff,
    factRegisters_of_ruleEffect heff, pass_of_ruleEffect heff, controls_of_ruleEffect heff⟩

end Sys2Proof.Proofs
end

section
/-! PROOFS. The work of a factorization and its published pair (43_factorization.md R208 to R214), for every choice of the
parameters, and the registers FACTORIZE writes with TGC-CORE's. -/

namespace Sys2Proof.Proofs

open Sys2Proof.Machine Sys2Proof.Safety

/-! ### Steps of one attempt -/

@[simp] theorem advanceHare_steps (n c r : Nat) (v : RhoState) : (advanceHare n c r v).steps = v.steps + r := by
  induction r generalizing v with
  | zero => rfl
  | succ r ih => simp only [advanceHare, ih]; omega

@[simp] theorem batchSteps_steps (n c r : Nat) (v : RhoState) : (batchSteps n c r v).steps = v.steps + r := by
  induction r generalizing v with
  | zero => rfl
  | succ r ih => simp only [batchSteps, ih]; omega

@[simp] theorem runBatch_steps (n c len : Nat) (v : RhoState) : (runBatch n c len v).steps = v.steps + len := by
  simp [runBatch]

/-- The batches of a block of length `r`, from its step `k` on, make at most the `r - k` steps left. -/
theorem batchLoop_steps_le (batch n c r bound k : Nat) (v : RhoState) :
    (batchLoop batch n c r bound k v).steps ≤ v.steps + (r - k) := by
  induction bound generalizing k v with
  | zero => exact Nat.le_add_right _ _
  | succ bound ih =>
    rw [batchLoop]
    split
    · have hrest := ih (k + batch) (runBatch n c (min batch (r - k)) v)
      rw [runBatch_steps] at hrest
      omega
    · exact Nat.le_add_right _ _

/-- A block of length `r` makes `r` steps for the hare and at most `r` in its batches. -/
theorem rhoBlock_steps_le (batch n c r : Nat) (v : RhoState) :
    (rhoBlock batch n c r v).steps ≤ v.steps + 2 * r := by
  have hbatches := batchLoop_steps_le batch n c r r 0 (advanceHare n c r { v with x := v.y })
  simp only [advanceHare_steps] at hbatches
  rw [rhoBlock]
  omega

/-- Blocks of lengths r, 2r, 4r, ... make at most 2r + 4r + 8r + ... steps. -/
theorem rhoLoop_steps_le (batch limit n c blocks r : Nat) (v : RhoState) :
    (rhoLoop batch limit n c blocks r v).2.steps ≤ v.steps + 2 * r * (2 ^ blocks - 1) := by
  induction blocks generalizing r v with
  | zero => exact Nat.le_add_right _ _
  | succ blocks ih =>
    have hblock := rhoBlock_steps_le batch n c r v
    have hpow : 2 * r * (2 ^ (blocks + 1) - 1) = 2 * r + 2 * (2 * r) * (2 ^ blocks - 1) := by
      obtain ⟨m, hm⟩ : ∃ m, 2 ^ blocks = m + 1 := ⟨2 ^ blocks - 1, by have := Nat.two_pow_pos blocks; omega⟩
      rw [Nat.pow_succ, hm, show (m + 1) * 2 - 1 = 2 * m + 1 by omega, Nat.add_sub_cancel]
      ring
    rw [hpow]
    simp only [rhoLoop]
    split
    · exact hblock.trans (by omega)
    · split
      · exact hblock.trans (by omega)
      · have hrest := ih (2 * r) (rhoBlock batch n c r v)
        omega

theorem backtrack_steps_le (n c k : Nat) (v : RhoState) : (backtrack n c k v).steps ≤ v.steps + k := by
  induction k generalizing v with
  | zero => exact Nat.le_refl _
  | succ k ih =>
    simp only [backtrack]
    split
    · exact Nat.add_le_add_left (Nat.le_add_left 1 k) _
    · exact (ih _).trans (by dsimp only; omega)

/-- The most evaluations one attempt can make: the blocks and the backtrack (43_factorization.md R210). -/
def attemptBudget (P : Config.FactParams) : Nat := 2 * (2 ^ blockCount P.rhoRLimit - 1) + P.rhoBatch

theorem brentAttempt_steps_le (P : Config.FactParams) (n c : Nat) : (brentAttempt P n c).steps ≤ attemptBudget P := by
  simp only [brentAttempt, attemptBudget]
  have hloop := rhoLoop_steps_le P.rhoBatch P.rhoRLimit n c (blockCount P.rhoRLimit) 1
    { x := P.rhoX0, y := P.rhoX0, ys := P.rhoX0, q := 1, g := 1, steps := 0 }
  generalize rhoLoop P.rhoBatch P.rhoRLimit n c (blockCount P.rhoRLimit) 1 _ = out at hloop ⊢
  dsimp only at hloop
  have hback : (if out.2.g = n then backtrack n c P.rhoBatch out.2 else out.2).steps ≤ out.2.steps + P.rhoBatch := by
    split
    · exact backtrack_steps_le n c P.rhoBatch out.2
    · exact Nat.le_add_right _ _
  simp only [apply_ite AttemptResult.steps, ite_self]
  split <;> omega

/-! ### Work of one search -/

/-- `left` attempts from offset `clast` on: their budget, and one offset each (43_factorization.md R209). -/
theorem rhoSearch_work_le (P : Config.FactParams) (n left steps clast : Nat) :
    (rhoSearch P n left steps clast).steps ≤ steps + left * attemptBudget P ∧
      (rhoSearch P n left steps clast).clast ≤ clast + left := by
  induction left generalizing steps clast with
  | zero => simp [rhoSearch]
  | succ left ih =>
    have hattempt := brentAttempt_steps_le P n (clast + 1)
    obtain ⟨hsteps, hclast⟩ := ih (steps + (brentAttempt P n (clast + 1)).steps) (clast + 1)
    rw [Nat.succ_mul]
    simp only [rhoSearch]
    split
    · exact ⟨by dsimp only; omega, by simp only []; omega⟩
    · exact ⟨by omega, by omega⟩

theorem findFactor_work_le (P : Config.FactParams) (n : Nat) :
    (findFactor P n).steps ≤ P.attempts * attemptBudget P ∧ (findFactor P n).clast ≤ P.attempts := by
  unfold findFactor
  split
  · exact ⟨Nat.zero_le _, Nat.zero_le _⟩
  · simpa using rhoSearch_work_le P n P.attempts 0 0

theorem factorizeWith_work_le (P : Config.FactParams) (n : Nat) :
    (factorizeWith P n).steps ≤ P.attempts * attemptBudget P ∧ (factorizeWith P n).clast ≤ P.attempts := by
  have hfind := findFactor_work_le P n
  unfold factorizeWith
  split
  · exact ⟨Nat.zero_le _, Nat.zero_le _⟩
  · dsimp only
    split <;> exact hfind

/-- The budget of TGC-CORE's parameters (43_factorization.md R210). -/
theorem attemptBudget_tgc : attemptBudget tgcFactParams = 4194430 := rfl

theorem factorize_steps_le (n : Nat) : (factorizeWith tgcFactParams n).steps ≤ 67110880 := by
  have h := (factorizeWith_work_le tgcFactParams n).1
  rwa [attemptBudget_tgc] at h

theorem factorize_clast_le (n : Nat) : (factorizeWith tgcFactParams n).clast ≤ 16 :=
  (factorizeWith_work_le tgcFactParams n).2

/-! ### The published pair -/

/-- The post-checks let only a pair of primes p < q < 2^32 through (43_factorization.md R211, R212). -/
theorem postCheck_factors {P : Config.FactParams} {n d p q : Nat} (h : postCheck P n d = .factors p q) :
    p < q ∧ q < 2 ^ 32 ∧ isPrimeWith P.mrBases p = true ∧ isPrimeWith P.mrBases q = true := by
  simp only [postCheck] at h
  split_ifs at h with hprime hsquare hlarge
  injection h with hp hq
  rw [hp, hq] at hprime hsquare
  rw [hq] at hlarge
  have hle : p ≤ q := hp ▸ hq ▸ min_le_max
  obtain ⟨hpp, hqp⟩ := hprime
  exact ⟨lt_of_le_of_ne hle hsquare, not_le.mp hlarge, hpp, hqp⟩

theorem factorizeWith_factors {P : Config.FactParams} {n p q : Nat} (h : (factorizeWith P n).outcome = .factors p q) :
    p < q ∧ q < 2 ^ 32 ∧ isPrimeWith P.mrBases p = true ∧ isPrimeWith P.mrBases q = true := by
  unfold factorizeWith at h
  split at h
  · cases h
  · dsimp only at h
    split at h
    · cases h
    · exact postCheck_factors h

/-- FACT_P and FACT_Q hold 0 and 0 or a pair of primes in order: the first clause of the invariant. -/
theorem publishes_pair_or_zero {n : Nat} {p q : Word} (h : Publishes (factorizeWith tgcFactParams n).outcome p q) :
    (p = 0 ∧ q = 0) ∨ (p.toNat < q.toNat ∧ isPrime p.toNat = true ∧ isPrime q.toNat = true) := by
  obtain hzero | ⟨a, b, ho, rfl, rfl⟩ := h
  · exact .inl hzero
  · obtain ⟨hlt, hmax, ha, hb⟩ := factorizeWith_factors ho
    rw [BitVec.toNat_ofNat, BitVec.toNat_ofNat, Nat.mod_eq_of_lt hmax, Nat.mod_eq_of_lt (hlt.trans hmax)]
    exact .inr ⟨hlt, ha, hb⟩

theorem saturate32_toNat_le (count : Nat) : (saturate32 count).toNat ≤ count := by
  rw [saturate32, BitVec.toNat_ofNat]
  exact (Nat.mod_le _ _).trans (min_le_left _ _)

end Sys2Proof.Proofs
end

section
/-! PROOFS. The invariants: they hold at reset (O56) and every step keeps them (O57, O58). -/

namespace Sys2Proof.Proofs

open Sys2Proof.Machine Sys2Proof.Safety

/-! ### The part of the state the host cannot write as data -/

/-- The state with the fields a host write to a data register, IRQ_EN or IRQ_STATUS can change, and the model's own three
fields, put to their reset values. The invariants speak of the rest alone. -/
def enginePart (s : State) : State :=
  { State.reset with
    dout := s.dout, factP := s.factP, factQ := s.factQ, factSteps := s.factSteps, factC := s.factC
    chc := s.chc, chp := s.chp, blkRemain := s.blkRemain, blkDone := s.blkDone
    passActive := s.passActive, passDir := s.passDir, w := s.w, keyValid := s.keyValid
    busy := s.busy, done := s.done, err := s.err, errCode := s.errCode, subCause := s.subCause
    lastOp := s.lastOp, inflight := s.inflight }

theorem engineInv_enginePart_iff (s : State) : EngineInv (enginePart s) ↔ EngineInv s := by
  constructor
  all_goals
    rintro ⟨⟨_, _, _, _⟩, _, ⟨_, _, _⟩, ⟨_, _, _, _, _, _, _⟩, ⟨_, _⟩⟩
    exact ⟨⟨‹_›, ‹_›, ‹_›, ‹_›⟩, ‹_›, ⟨‹_›, ‹_›, ‹_›⟩, ⟨‹_›, ‹_›, ‹_›, ‹_›, ‹_›, ‹_›, ‹_›⟩, ⟨‹_›, ‹_›⟩⟩

theorem factInv_enginePart_iff (s : State) : FactInv (enginePart s) ↔ FactInv s :=
  ⟨fun ⟨hpair, hsteps, hc⟩ => ⟨hpair, hsteps, hc⟩, fun ⟨hpair, hsteps, hc⟩ => ⟨hpair, hsteps, hc⟩⟩

theorem engineInv_of_enginePart_eq {s t : State} (e : enginePart t = enginePart s) (h : EngineInv s) : EngineInv t :=
  (engineInv_enginePart_iff t).mp (e ▸ (engineInv_enginePart_iff s).mpr h)

theorem factInv_of_enginePart_eq {s t : State} (e : enginePart t = enginePart s) (h : FactInv s) : FactInv t :=
  (factInv_enginePart_iff t).mp (e ▸ (factInv_enginePart_iff s).mpr h)

/-! ### What a step can do to that part -/

/-- What the host can do to the engine's part: leave it, reset it, or, where BUSY = 0, have a command word accepted. -/
def HostEffect (s t : State) : Prop :=
  enginePart t = enginePart s ∨ enginePart t = enginePart State.reset ∨
    (s.busy = false ∧ ∃ v, enginePart t = enginePart (acceptCommand v s))

theorem hostEffect_writeReg (r : Reg) (v : Word) (s : State) : HostEffect s (writeReg r v s) := by
  cases r with
  | ctrl =>
    obtain ⟨-, h⟩ | ⟨-, h⟩ := writeCtrl_cases v s
    · exact .inr (.inl (congrArg enginePart h :))
    · exact .inl (congrArg enginePart h :)
  | cmd =>
    obtain ⟨-, h⟩ | ⟨hb, h⟩ := writeCmd_cases v s
    · exact .inl (congrArg enginePart h :)
    · exact .inr (.inr ⟨hb, v, congrArg enginePart h⟩)
  | _ => exact .inl rfl

theorem hostEffect_hostWrite (off size : Nat) (v : Word) (s : State) : HostEffect s (hostWrite off size v s) := by
  obtain h | ⟨r, -, h⟩ := hostWrite_cases off size v s <;> rw [h]
  · exact .inl rfl
  · exact hostEffect_writeReg r v s

theorem hostEffect_hostTurn (s : State) : HostEffect s (hostTurn s) := by
  obtain h | ⟨prog, resp, h⟩ | ⟨prog, resp, off, size, v, h⟩ := hostTurn_cases s <;> rw [h]
  · exact .inl rfl
  · exact .inl rfl
  · -- the engine's part does not see the host's program and the bus's answer
    exact hostEffect_hostWrite off size v { s with program := prog }

/-- All that a step can do to the engine's part: what the host can, or the completion of the command in flight after one
of the effects of its rule. -/
theorem step_enginePart {s t : State} (h : step s = .next t) :
    HostEffect s t ∨ (s.busy = true ∧ ∃ i r, RuleEffect i (takeTurn s) (endState r) ∧ t = finish r) := by
  obtain ⟨-, rfl⟩ | ⟨-, rfl⟩ | ⟨-, -, rfl⟩ | ⟨-, hb, f, -, hexec⟩ := step_next h
  · exact .inl (hostEffect_hostTurn (takeTurn s))
  · exact .inl (.inr (.inl rfl))
  · exact .inl (.inl rfl)
  · exact .inr ⟨hb, f.cmd, exec_next_effect hexec⟩

/-! ### Reset and acceptance -/

theorem engineInv_reset : EngineInv State.reset where
  status := ⟨nofun, nofun, by decide, fun _ => rfl⟩
  listedError := nofun
  inflight := ⟨by decide, nofun, nofun⟩
  pass := ⟨nofun, fun _ => rfl, fun _ => rfl, fun _ => rfl, nofun, nofun, by decide⟩
  schedule := ⟨nofun, fun _ => rfl⟩

theorem factInv_reset : FactInv State.reset := ⟨.inl ⟨rfl, rfl⟩, by decide, by decide⟩

/-- Settles O56. -/
theorem resetSatisfiesTheInvariants : Obligations.ResetSatisfiesTheInvariants := ⟨engineInv_reset, factInv_reset⟩

/-- The accepted command is well formed and LAST_OP is its opcode, since the decoder loses nothing of the word. -/
theorem inflightInv_acceptCommand (v : Word) (s : State) : InflightInv (acceptCommand v s) where
  busy_iff := ⟨fun _ => rfl, fun _ => rfl⟩
  wellFormed := by
    rintro f ⟨⟩
    exact decode_wellFormed v
  lastOp_eq := by
    rintro f ⟨⟩
    rw [encode_decode]
    rfl

theorem engineInv_acceptCommand {s : State} (v : Word) (h : EngineInv s) : EngineInv (acceptCommand v s) where
  status := ⟨fun _ => ⟨rfl, rfl⟩, nofun, by simp, fun _ => rfl⟩
  listedError := nofun
  inflight := inflightInv_acceptCommand v s
  pass := by
    obtain ⟨hdir, hchc, hchp, hzero, hpos, hkey, hbound⟩ := h.pass
    exact ⟨hdir, hchc, hchp, hzero, hpos, hkey, hbound⟩
  schedule := by
    obtain ⟨hvalid, hinvalid⟩ := h.schedule
    exact ⟨hvalid, hinvalid⟩

/-! ### Completion -/

theorem errCodeOf_ne_zero (e : CmdError) : errCodeOf e ≠ 0 := by
  cases e <;> decide

/-- A completion records no error, or one of the listed errors (60_exceptions.md R251, R252). -/
theorem statusInv_listedErrorInv_finish {r : ExecResult} (herr : (endState r).err = false)
    (hcode : (endState r).errCode = 0) (hsub : (endState r).subCause = 0) :
    StatusInv (finish r) ∧ ListedErrorInv (finish r) := by
  cases r with
  | completes u =>
    rw [endState_completes] at herr hcode hsub
    exact ⟨⟨nofun, fun _ => rfl, by simp [herr, hcode], fun _ => hsub⟩, by simp [ListedErrorInv, herr]⟩
  | raises e u =>
    exact ⟨⟨nofun, fun _ => rfl, iff_of_true (errCodeOf_ne_zero e) rfl, nofun⟩, fun _ => ⟨e, rfl, rfl⟩⟩

theorem inflightInv_finish (r : ExecResult) : InflightInv (finish r) := by
  constructor <;> simp

/-- Outside a pass the fields of the pass are 0, so only the bound on BLK_DONE is left to show. -/
theorem passInv_of_inactive {s : State} (hactive : s.passActive = false) (hdir : s.passDir = false)
    (hchc : s.chc = Vector.replicate 4 0) (hchp : s.chp = Vector.replicate 4 0) (hremain : s.blkRemain = 0)
    (hdone : s.blkDone.toNat ≤ 0x0FFFFFFF) : PassInv s := by
  constructor <;> simp [hactive, hdir, hchc, hchp, hremain, hdone]

/-- Inside a pass BLK_REMAIN - 1 and BLK_DONE + 1 do not wrap, so their sum stays (60_exceptions.md R265). -/
theorem countBlock_counters {s : State} (hpos : 0 < s.blkRemain.toNat)
    (hbound : s.blkRemain.toNat + s.blkDone.toNat ≤ 0x0FFFFFFF) :
    (s.blkRemain - 1).toNat = s.blkRemain.toNat - 1 ∧ (s.blkDone + 1).toNat = s.blkDone.toNat + 1 := by
  constructor <;> bv_omega

theorem passInv_of_ruleEffect {i : Instr} {s u : State} (h : RuleEffect i s u) (hs : PassInv s) : PassInv u := by
  obtain ⟨hdir, hchc, hchp, hzero, hpos, hkey, hbound⟩ := hs
  cases h with
  | unchanged => exact ⟨hdir, hchc, hchp, hzero, hpos, hkey, hbound⟩
  | keyExpand => exact ⟨hdir, hchc, hchp, hzero, hpos, fun _ => rfl, hbound⟩
  | block => exact ⟨hdir, hchc, hchp, hzero, hpos, hkey, hbound⟩
  | factorize => exact ⟨hdir, hchc, hchp, hzero, hpos, hkey, hbound⟩
  | igeStart _ _ _ _ _ n _ _ hn hmax =>
    have hcount : (BitVec.ofNat 32 n).toNat = n := by
      rw [BitVec.toNat_ofNat]
      exact Nat.mod_eq_of_lt (by omega)
    exact ⟨fun _ => rfl, nofun, nofun, nofun, fun _ => hcount.symm ▸ hn, fun _ => rfl, by simpa [hcount] using hmax⟩
  | igeStepMore c p o _ hp hmore =>
    obtain ⟨hr, hd⟩ := countBlock_counters (hpos hp) hbound
    have hnext : 0 < (s.blkRemain - 1).toNat := by bv_omega
    refine ⟨hdir, ?_, ?_, ?_, fun _ => hnext, hkey, ?_⟩
    · simp [hp]
    · simp [hp]
    · simp [hp]
    · rw [countBlock_blkRemain, countBlock_blkDone, hr, hd]
      have := hpos hp
      omega
  | igeStepLast c p o _ hp =>
    obtain ⟨-, hd⟩ := countBlock_counters (hpos hp) hbound
    have := hpos hp
    exact passInv_of_inactive rfl rfl rfl rfl rfl (by rw [endPass_blkDone, countBlock_blkDone, hd]; omega)
  | igeAbort => exact passInv_of_inactive rfl rfl rfl rfl rfl (by rw [endPass_blkDone]; omega)
  | zeroize => exact passInv_of_inactive rfl rfl rfl rfl rfl (by simp)

theorem scheduleInv_of_ruleEffect {i : Instr} {s u : State} (h : RuleEffect i s u) (hs : ScheduleInv s) :
    ScheduleInv u := by
  obtain ⟨hvalid, hinvalid⟩ := hs
  cases h with
  | keyExpand k => exact ⟨fun _ => ⟨k, rfl⟩, nofun⟩
  | igeStart _ _ k => exact ⟨fun _ => ⟨k, rfl⟩, nofun⟩
  | zeroize => exact ⟨nofun, fun _ => rfl⟩
  | _ => exact ⟨hvalid, hinvalid⟩

/-- The effect of a command and the end of its completion keep the engine's invariant. -/
theorem engineInv_finish {i : Instr} {s : State} {r : ExecResult} (hb : s.busy = true)
    (heff : RuleEffect i s (endState r)) (h : EngineInv s) : EngineInv (finish r) := by
  obtain ⟨hstatus, -, -, hpass, hschedule⟩ := h
  obtain ⟨-, herr⟩ := hstatus.busy_clears hb
  have hcode : s.errCode = 0 := by simpa [herr] using hstatus.code_iff_err
  obtain ⟨eerr, ecode, esub⟩ := errorRecord_of_ruleEffect heff
  obtain ⟨hstatus', hlisted'⟩ :=
    statusInv_listedErrorInv_finish (eerr.trans herr) (ecode.trans hcode) (esub.trans (hstatus.subCause_zero herr))
  obtain ⟨hdir, hchc, hchp, hzero, hpos, hkey, hbound⟩ := passInv_of_ruleEffect heff hpass
  obtain ⟨hvalid, hinvalid⟩ := scheduleInv_of_ruleEffect heff hschedule
  -- the completion itself writes no field of the pass or of the schedule
  refine ⟨hstatus', hlisted', inflightInv_finish r, ?_, ?_⟩ <;> constructor <;> simpa

/-- Settles O57: the engine's part of the state stays, is reset, takes a command in, or completes one. -/
theorem stepKeepsTheEngineInvariant : Obligations.StepKeepsTheEngineInvariant := by
  intro s t h hstep
  obtain (e | e | ⟨-, v, e⟩) | ⟨hb, i, r, heff, rfl⟩ := step_enginePart hstep
  · exact engineInv_of_enginePart_eq e h
  · exact engineInv_of_enginePart_eq e engineInv_reset
  · exact engineInv_of_enginePart_eq e (engineInv_acceptCommand v h)
  · exact engineInv_finish (s := takeTurn s) hb heff (engineInv_of_enginePart_eq (s := s) rfl h)

/-! ### The factorization registers -/

theorem factInv_of_ruleEffect {i : Instr} {s u : State} (h : RuleEffect i s u) (hs : FactInv s) : FactInv u := by
  obtain ⟨hpair, hsteps, hc⟩ := hs
  cases h with
  | factorize n p q _ hpq =>
    have hclast : (BitVec.ofNat 32 (factorizeWith tgcFactParams n).clast).toNat ≤ 16 :=
      (BitVec.toNat_ofNat _ 32 ▸ Nat.mod_le _ _).trans (factorize_clast_le n)
    exact ⟨publishes_pair_or_zero hpq, (saturate32_toNat_le _).trans (factorize_steps_le n), hclast⟩
  | zeroize => exact ⟨.inl ⟨rfl, rfl⟩, by simp, by simp⟩
  | _ => exact ⟨hpair, hsteps, hc⟩

theorem factInv_finish {i : Instr} {s : State} {r : ExecResult} (heff : RuleEffect i s (endState r)) (h : FactInv s) :
    FactInv (finish r) := by
  obtain ⟨hpair, hsteps, hc⟩ := factInv_of_ruleEffect heff h
  constructor <;> simpa

/-- Settles O58: acceptance leaves the registers alone, and only FACTORIZE and ZEROIZE write them. -/
theorem stepKeepsTheFactorInvariant : Obligations.StepKeepsTheFactorInvariant := by
  intro s t h hstep
  obtain (e | e | ⟨-, v, e⟩) | ⟨-, i, r, heff, rfl⟩ := step_enginePart hstep
  · exact factInv_of_enginePart_eq e h
  · exact factInv_of_enginePart_eq e factInv_reset
  · obtain ⟨hpair, hsteps, hc⟩ := h
    exact factInv_of_enginePart_eq e ⟨hpair, hsteps, hc⟩
  · exact factInv_finish heff (factInv_of_enginePart_eq (s := s) rfl h)

end Sys2Proof.Proofs
end

section
/-! PROOFS. Packing of bytes into registers and back, for blocks and 32-byte strings alike (20_memory.md R68; O30). -/

namespace Sys2Proof.Proofs

open Sys2Proof.Machine

/-- A packed register's value has its bytes as digits, the first the lowest. -/
theorem packWord_toNat (a b c d : Byte) :
    (packWord a b c d).toNat = a.toNat + 2 ^ 8 * b.toNat + 2 ^ 16 * c.toNat + 2 ^ 24 * d.toNat := by
  have append {m n : Nat} (x : BitVec m) (y : BitVec n) : (x ++ y).toNat = x.toNat * 2 ^ n + y.toNat := by
    rw [BitVec.toNat_append, ← Nat.shiftLeft_add_eq_or_of_lt y.isLt, Nat.shiftLeft_eq]
  simp only [packWord, append]
  omega

theorem regByte_toNat (x : Word) (j : Nat) : (regByte x j).toNat = x.toNat / 2 ^ (8 * (j % 4)) % 2 ^ 8 := by
  rw [regByte, BitVec.extractLsb'_toNat, Nat.shiftRight_eq_div_pow]

/-- Byte `j` of a string is byte `j mod 4` of the register that holds it, whatever the string's length. -/
theorem regByte_packWord {n : Nat} (b : Vector Byte n) {j : Nat} (hj : j < n) (hk : 4 * (j / 4) + 3 < n) :
    regByte (packWord b[4 * (j / 4)] b[4 * (j / 4) + 1] b[4 * (j / 4) + 2] b[4 * (j / 4) + 3]) j = b[j] := by
  apply BitVec.eq_of_toNat_eq
  obtain ⟨k, r, hr, rfl⟩ : ∃ k r, r < 4 ∧ j = 4 * k + r := ⟨j / 4, j % 4, Nat.mod_lt _ (by decide), by omega⟩
  have hdiv : (4 * k + r) / 4 = k := by omega
  have hmod : (4 * k + r) % 4 = r := by omega
  simp only [regByte_toNat, packWord_toNat, hdiv, hmod]
  interval_cases r <;> simp only [Nat.reduceMul, Nat.add_zero] <;> omega

/-- A register is its four bytes packed. -/
theorem packWord_regByte (x : Word) (k : Nat) :
    packWord (regByte x (4 * k)) (regByte x (4 * k + 1)) (regByte x (4 * k + 2)) (regByte x (4 * k + 3)) = x := by
  apply BitVec.eq_of_toNat_eq
  have hx := x.isLt
  simp only [packWord_toNat, regByte_toNat, Nat.mul_mod_right, Nat.mul_add_mod, Nat.reduceMod, Nat.reduceMul]
  omega

theorem unpackBlock_packBlock (b : Block) : unpackBlock (packBlock b) = b := by
  ext j hj
  simp [unpackBlock, packBlock, regByte_packWord b hj (by omega)]

theorem packBlock_unpackBlock (x : Vector Word 4) : packBlock (unpackBlock x) = x := by
  ext k hk
  simp [unpackBlock, packBlock, Nat.mul_add_div, packWord_regByte]

theorem unpackBytes32_packBytes32 (b : Bytes32) : unpackBytes32 (packBytes32 b) = b := by
  ext j hj
  simp [unpackBytes32, packBytes32, regByte_packWord b hj (by omega)]

theorem packBytes32_unpackBytes32 (x : Vector Word 8) : packBytes32 (unpackBytes32 x) = x := by
  ext k hk
  simp [unpackBytes32, packBytes32, Nat.mul_add_div, packWord_regByte]

/-- Settles O30: the register's digits are its bytes, and each round trip is one of the register's two. -/
theorem packingIsLittleEndianAndExact : Obligations.PackingIsLittleEndianAndExact := by
  refine ⟨fun b k => ?_, fun b k => ?_, unpackBlock_packBlock, packBlock_unpackBlock, unpackBytes32_packBytes32,
    packBytes32_unpackBytes32⟩
  · simp [packBlock, packWord_toNat]
  · simp [packBytes32, packWord_toNat]

end Sys2Proof.Proofs
end

section
/-! PROOFS. The register window: which offsets hold a register (O20), the accesses it refuses (O18, O19, O21), the reads of
the write-only registers (O22) and the data registers (O23); and the sequencer's turn (O12). -/

namespace Sys2Proof.Proofs

open Sys2Proof.Machine Sys2Proof.Safety

/-! ### The sequencer's turn -/

/-- A turn of the sequencer with a command in flight is `exec` of that command. -/
theorem step_of_sequencer {s : State} {f : InFlight} (hturn : turnOf s = .sequencer) (hb : s.busy = true)
    (hf : s.inflight = some f) : step s = exec f.cmd (takeTurn s) := by
  simp only [step, hturn, hb, hf, if_true]

/-- Settles O12: scheduled or by default, the turn is the sequencer's, and what is left of the schedule is its tail. -/
theorem stepRunsTheInflightCommand : Obligations.StepRunsTheInflightCommand := by
  intro s f hb hf
  constructor
  · intro rest hsched
    rw [step_of_sequencer (by simp [turnOf, hsched]) hb hf, takeTurn, hsched, List.tail_cons]
  · intro hsched
    rw [step_of_sequencer (by simp [turnOf, hsched, hb]) hb hf]
    congr 1
    rw [takeTurn, hsched, List.tail_nil, ← hsched]

/-! ### The register map -/

/-- An offset holds the register whose offset it is, and no other (20_memory.md R61). -/
theorem regAt_eq_some_iff (off : Nat) (r : Reg) : regAt off = some r ↔ regOffset r = off := by
  constructor
  · intro h
    simpa using List.find?_some h
  · rintro rfl
    exact regAt_regOffset r

/-- Every register stands at an aligned offset of the window that is not reserved (20_memory.md R61, R64). -/
theorem regOffset_valid (r : Reg) : regOffset r % 4 = 0 ∧ regOffset r < 0x100 ∧ ¬ReservedOffset (regOffset r) := by
  unfold ReservedOffset
  cases r with
  | key k | iv k | din k | dout k | chc k | chp k =>
    simp only [regOffset]
    omega
  | _ => decide

/-- The window has no hole but the reserved offsets: its 64 words one by one (20_memory.md R61, R64). -/
theorem regAt_isSome_or_reservedOffset (k : Fin 64) : (regAt (4 * k.val)).isSome = true ∨ ReservedOffset (4 * k.val) := by
  unfold ReservedOffset
  revert k
  decide

theorem regAt_isSome_iff (off : Nat) :
    (regAt off).isSome = true ↔ off % 4 = 0 ∧ off < 0x100 ∧ ¬ReservedOffset off := by
  constructor
  · intro h
    obtain ⟨r, hr⟩ := Option.isSome_iff_exists.mp h
    rw [← (regAt_eq_some_iff off r).mp hr]
    exact regOffset_valid r
  · rintro ⟨halign, hlt, hres⟩
    have hoff : 4 * (off / 4) = off := by omega
    have hword := regAt_isSome_or_reservedOffset ⟨off / 4, by omega⟩
    rw [hoff] at hword
    exact hword.resolve_right hres

/-- Settles O20: the table is the offsets of the registers, since each is found at its own. -/
theorem registerMapIsExact : Obligations.RegisterMapIsExact := by
  have found := regAt_regOffset
  exact ⟨⟨found .id, found .ctrl, found .cmd, found .status, found .irqStatus, found .keyLen, found .ivLen,
      found .msgLen, found .blkRemain, found .blkDone, found .nLo, found .nHi, found .factP, found .factQ,
      found .factSteps, found .factC⟩,
    fun k => ⟨found (.key k), found (.iv k)⟩,
    fun k => ⟨found (.din k), found (.dout k), found (.chc k), found (.chp k)⟩,
    regAt_eq_some_iff, regAt_isSome_iff⟩

/-! ### Refused accesses -/

/-- An access of another size than 4, or where no register is, is answered with a BusError and changes no state
(20_memory.md R62, R64). -/
theorem access_refused {off size : Nat} (h : size = 4 → regAt off = none) (v : Word) (s : State) :
    hostRead off size s = .busError off ∧ hostWriteResponse off size = .busError off ∧ hostWrite off size v s = s := by
  by_cases hsize : size = 4
  · simp [hostRead, hostWriteResponse, hostWrite, h hsize]
  · simp [hostRead, hostWriteResponse, hostWrite, hsize]

theorem regAt_eq_none {off : Nat} (h : ¬(off % 4 = 0 ∧ off < 0x100 ∧ ¬ReservedOffset off)) : regAt off = none := by
  rwa [← regAt_isSome_iff, Option.not_isSome_iff_eq_none] at h

/-- Settles O18: there is no register at a misaligned offset or outside the window. -/
theorem malformedAccessesRaiseBusError : Obligations.MalformedAccessesRaiseBusError := by
  intro off size v s hbad
  have hnone : size = 4 → regAt off = none := fun _ => regAt_eq_none fun ⟨halign, hlt, _⟩ => by omega
  obtain ⟨hread, hresp, hwrite⟩ := access_refused hnone v s
  exact ⟨hread, hresp, hwrite, rfl⟩

/-- Settles O19: there is no register at a reserved offset. -/
theorem reservedOffsetsRaiseBusError : Obligations.ReservedOffsetsRaiseBusError := fun _ v s hres =>
  access_refused (fun _ => regAt_eq_none fun ⟨_, _, hfree⟩ => hfree hres) v s

theorem hostWriteResponse_regOffset (r : Reg) :
    hostWriteResponse (regOffset r) 4 = if regAccess r = .ro then .busError (regOffset r) else .written := by
  simp [hostWriteResponse]

theorem hostWrite_regOffset_of_ro {r : Reg} (hr : regAccess r = .ro) (v : Word) (s : State) :
    hostWrite (regOffset r) 4 v s = s := by
  simp [hostWrite, hr]

/-- Settles O21: the registers named are of class RO. -/
theorem readOnlyWritesRaiseBusError : Obligations.ReadOnlyWritesRaiseBusError := by
  intro r v s h
  have hro : regAccess r = .ro := by
    obtain h | ⟨k, rfl⟩ | ⟨k, rfl⟩ | ⟨k, rfl⟩ := h
    · revert r
      decide
    all_goals rfl
  exact ⟨by rw [hostWriteResponse_regOffset, if_pos hro], hostWrite_regOffset_of_ro hro v s⟩

/-! ### Write-only registers -/

/-- Settles O22: CMD and KEYk are the registers at these offsets, and both read 0. -/
theorem writeOnlyRegistersReadZero : Obligations.WriteOnlyRegistersReadZero := by
  intro s off hoff
  have hread : ∀ t : State, hostRead off 4 t = .data 0 := by
    intro t
    obtain rfl | ⟨k, rfl⟩ := hoff
    · exact hostRead_regOffset .cmd t
    · exact hostRead_regOffset (.key k) t
  refine ⟨hread s, fun rest turns hsched hprog => ?_⟩
  rw [step_of_hostOp hsched hprog, hostOp, hread]

/-! ### Data registers -/

/-- The registers of class RW but CTRL are the data registers the host can read back (20_memory.md R61, R63): each holds
the word written, and no other register's value depends on it. -/
theorem readReg_writeReg_of_rw {r : Reg} (hrw : regAccess r = .rw) (hctrl : r ≠ .ctrl) (v : Word) (s : State)
    (r' : Reg) : readReg (writeReg r v s) r' = if r' = r then v else readReg s r' := by
  cases r with
  | ctrl => exact absurd rfl hctrl
  | iv k =>
    cases r' with
    | iv k' => simp [readReg, writeReg, Vector.getElem_set, Fin.ext_iff, eq_comm]
    | _ => rfl
  | din k =>
    cases r' with
    | din k' => simp [readReg, writeReg, Vector.getElem_set, Fin.ext_iff, eq_comm]
    | _ => rfl
  | keyLen | ivLen | msgLen | nLo | nHi => cases r' <;> rfl
  | _ => cases hrw

/-- Settles O23: each write is `writeReg` at that register's offset, and a read after it sees that register alone changed. -/
theorem dataRegistersStoreAllBits : Obligations.DataRegistersStoreAllBits := by
  refine ⟨fun v s => ?_, fun r v s hr => ?_, fun k => hostWriteResponse_regOffset (.key k)⟩
  · have write := fun r (hr : regAccess r ≠ .ro) => hostWrite_regOffset hr v s
    exact ⟨write .keyLen nofun, write .ivLen nofun, write .msgLen nofun, write .nLo nofun, write .nHi nofun,
      fun k => ⟨write (.key k) nofun, write (.iv k) nofun⟩, fun k => write (.din k) nofun⟩
  · have hclass : regAccess r = .rw ∧ r ≠ .ctrl := by
      obtain h | ⟨k, rfl⟩ | ⟨k, rfl⟩ := hr
      · revert r
        decide
      all_goals exact ⟨rfl, nofun⟩
    obtain ⟨hrw, hctrl⟩ := hclass
    have hro : regAccess r ≠ .ro := by simp [hrw]
    have hread := readReg_writeReg_of_rw hrw hctrl v s
    rw [hostWriteResponse_regOffset, if_neg hro, hostWrite_regOffset hro, hostRead_regOffset, hread, if_pos rfl]
    exact ⟨rfl, rfl, fun r' hne => by rw [hread, if_neg hne]⟩

end Sys2Proof.Proofs
end

section
/-! PROOFS. Command words: the rows of the opcode table exclude each other, so the decoder inverts the encoder (O1, O2),
the map is exact (O3), and sample words decode as the spec writes them (O4). -/

namespace Sys2Proof.Proofs

open Sys2Proof.Safety

/-! ### Each word is in one row -/

/-- No two rows of opcode_table.json agree on the bits that both of their masks keep. -/
theorem opcodeTable_pairwise_conflict :
    opcodeTable.Pairwise fun r r' => r.pattern &&& r'.mask ≠ r'.pattern &&& r.mask := by
  decide

theorem pattern_and_mask_eq {r r' : OpcodeRow} {w : Word} (h : r.matchesWord w = true) (h' : r'.matchesWord w = true) :
    r.pattern &&& r'.mask = r'.pattern &&& r.mask := by
  simp only [OpcodeRow.matchesWord, selects, beq_iff_eq] at h h'
  rw [← h, ← h', BitVec.and_assoc, BitVec.and_assoc, BitVec.and_comm r.mask]

/-- The rows exclude each other (30_encoding.md R91). -/
theorem opcodeTable_pairwise_exclusive (w : Word) :
    opcodeTable.Pairwise fun r r' => ¬(r.matchesWord w = true ∧ r'.matchesWord w = true) :=
  opcodeTable_pairwise_conflict.imp fun hconflict ⟨h, h'⟩ => hconflict (pattern_and_mask_eq h h')

theorem row_unique {w : Word} {n m : Nat} {r r' : OpcodeRow} (hr : opcodeTable[n]? = some r)
    (hr' : opcodeTable[m]? = some r') (h : r.matchesWord w = true) (h' : r'.matchesWord w = true) : n = m := by
  have hexcl := List.pairwise_iff_getElem.mp (opcodeTable_pairwise_exclusive w)
  obtain ⟨hn, rfl⟩ := List.getElem?_eq_some_iff.mp hr
  obtain ⟨hm, rfl⟩ := List.getElem?_eq_some_iff.mp hr'
  obtain hlt | heq | hgt := lt_trichotomy n m
  · exact absurd ⟨h, h'⟩ (hexcl n m hn hm hlt)
  · exact heq
  · exact absurd ⟨h', h⟩ (hexcl m n hm hn hgt)

/-! ### The instruction of a row -/

/-- The instructions of the rows of opcode_table.json, in its order, each from the command word; a command ignores it. -/
def rowInstrs : List (Word → Instr) :=
  ([.nop, .keyExpand, .encBlock, .decBlock, .igeEncStart, .igeDecStart, .igeStep, .igeAbort, .factorize, .zeroize].map
    fun i _ => i) ++ unknownOpcodeCtors ++ reservedBitsCtors

/-- An instruction is well formed where the row of its constructor matches its word (30_encoding.md R91). -/
theorem row_matchesWord_encode (i : Instr) :
    (opcodeTable[i.ctorIdx]?).any (fun r => r.matchesWord (encode i)) = i.wellFormed := by
  cases i <;> rfl

theorem rowInstrs_encode (i : Instr) : (rowInstrs[i.ctorIdx]?).map (fun mk => mk (encode i)) = some i := by
  cases i <;> rfl

theorem exists_row_of_wordOf {i : Instr} {w : Word} (h : WordOf i w) :
    ∃ r, opcodeTable[i.ctorIdx]? = some r ∧ r.matchesWord w = true := by
  obtain ⟨hwf, rfl⟩ := h
  rw [← row_matchesWord_encode, Option.any_eq_true] at hwf
  exact hwf

/-- A word stands for one instruction at most. -/
theorem eq_of_wordOf {i j : Instr} {w : Word} (hi : WordOf i w) (hj : WordOf j w) : i = j := by
  obtain ⟨r, hr, hmatch⟩ := exists_row_of_wordOf hi
  obtain ⟨r', hr', hmatch'⟩ := exists_row_of_wordOf hj
  have hrow : i.ctorIdx = j.ctorIdx := row_unique hr hr' hmatch hmatch'
  have hword : encode i = encode j := hi.2.trans hj.2.symm
  apply Option.some.inj
  rw [← rowInstrs_encode i, hrow, hword, rowInstrs_encode j]

/-- Settles O1: an instruction and what its word decodes to stand for the same word. -/
theorem decodeOfEncodeIsIdentity : Obligations.DecodeOfEncodeIsIdentity := fun i hwf =>
  eq_of_wordOf (wordOf_decode (encode i)) ⟨hwf, rfl⟩

/-- Settles O2: the decoder's answer stands for the word decoded. -/
theorem encodeOfDecodeIsIdentity : Obligations.EncodeOfDecodeIsIdentity := wordOf_decode

/-- Settles O4, by evaluation. -/
theorem decoderReadsSampleWords : Obligations.DecoderReadsSampleWords := by
  unfold Obligations.DecoderReadsSampleWords
  decide

/-! ### The words of a row -/

/-- A row whose mask keeps the bits from `k` up selects the words with its quotient by 2^k, and no others. -/
theorem matchesWord_iff_div_eq {r : OpcodeRow} (w : Word) (k c : Nat) (hmask : r.mask = BitVec.allOnes 32 <<< k)
    (hpattern : r.pattern = BitVec.ofNat 32 c <<< k) (hc : c * 2 ^ k < 2 ^ 32) :
    r.matchesWord w = true ↔ w.toNat / 2 ^ k = c := by
  refine ⟨fun h => ?_, selects_of_div_eq k c hmask hpattern⟩
  have hpos : 0 < 2 ^ k := Nat.two_pow_pos k
  rw [OpcodeRow.matchesWord, selects, hmask, hpattern, and_allOnes_shiftLeft, beq_iff_eq, ← BitVec.toNat_inj] at h
  simp only [BitVec.toNat_shiftLeft, BitVec.toNat_ushiftRight, BitVec.toNat_ofNat, Nat.shiftLeft_eq,
    Nat.shiftRight_eq_div_pow, Nat.mod_mul_mod] at h
  rw [Nat.mod_eq_of_lt hc, Nat.mod_eq_of_lt ((Nat.div_mul_le_self _ _).trans_lt w.isLt)] at h
  exact Nat.eq_of_mul_eq_mul_right hpos h

theorem unknownOpcodeRows_any_iff (w : Word) : (unknownOpcodeRows.any fun r => r.matchesWord w) = true ↔
    w.extractLsb' 8 24 = 0#24 ∧ 0x0A ≤ (w.extractLsb' 0 8).toNat := by
  have hrsvd : w.extractLsb' 8 24 = 0#24 ↔ w.toNat / 2 ^ 8 = 0 := rsvdField_eq_zero_iff w
  have hopcode : (w.extractLsb' 0 8).toNat = w.toNat % 2 ^ 8 := opcodeField_toNat w
  rw [hrsvd, hopcode, unknownOpcodeRows]
  simp only [List.any_cons, List.any_nil, Bool.or_eq_true, Bool.false_eq_true, or_false]
  rw [matchesWord_iff_div_eq w 1 5 (by decide) (by decide) (by decide),
    matchesWord_iff_div_eq w 2 3 (by decide) (by decide) (by decide),
    matchesWord_iff_div_eq w 4 1 (by decide) (by decide) (by decide),
    matchesWord_iff_div_eq w 5 1 (by decide) (by decide) (by decide),
    matchesWord_iff_div_eq w 6 1 (by decide) (by decide) (by decide),
    matchesWord_iff_div_eq w 7 1 (by decide) (by decide) (by decide)]
  omega

/-- Row `k` of the reserved bits keeps the bits from 31 - k up and asks for the lowest of them alone. -/
theorem reservedBitsRows_getElem (k : Fin 24) : reservedBitsRows[k.val]? =
    some ⟨BitVec.ofNat 32 1 <<< (31 - k.val), BitVec.allOnes 32 <<< (31 - k.val)⟩ := by
  revert k
  decide

theorem reservedBitsRows_matchesWord_iff (w : Word) (k : Fin 24) (r : OpcodeRow)
    (hr : reservedBitsRows[k.val]? = some r) :
    r.matchesWord w = true ↔ 2 ^ (31 - k.val) ≤ w.toNat ∧ w.toNat < 2 ^ (32 - k.val) := by
  rw [reservedBitsRows_getElem] at hr
  obtain rfl := Option.some.inj hr
  have hc : 1 * 2 ^ (31 - k.val) < 2 ^ 32 := by
    rw [Nat.one_mul]
    exact Nat.pow_lt_pow_right (by decide) (by omega)
  have hsucc : 2 ^ (32 - k.val) = 2 ^ (31 - k.val) * 2 := by
    rw [← Nat.pow_succ]
    congr 1
    omega
  have hpos : 0 < 2 ^ (31 - k.val) := Nat.two_pow_pos _
  rw [matchesWord_iff_div_eq w (31 - k.val) 1 rfl rfl hc, Nat.div_eq_iff hpos, hsucc]
  generalize 2 ^ (31 - k.val) = p at hpos
  omega

/-- A predicate that no two elements of a list share counts one element at most. -/
theorem countP_le_one_of_pairwise {α : Type} {p : α → Bool} {l : List α}
    (h : l.Pairwise fun a b => ¬(p a = true ∧ p b = true)) : l.countP p ≤ 1 := by
  induction h with
  | nil => simp
  | cons hhead _ ih =>
    rename_i a l _
    rw [List.countP_cons]
    split
    · rename_i ha
      have hnone : l.countP p = 0 := List.countP_eq_zero.mpr fun b hb hp => hhead b hb ⟨ha, hp⟩
      omega
    · exact ih

/-- Every word is in exactly one row: that of its decoding (30_encoding.md R91). -/
theorem opcodeTable_countP_matchesWord (w : Word) : opcodeTable.countP (fun r => r.matchesWord w) = 1 := by
  obtain ⟨r, hr, hmatch⟩ := exists_row_of_wordOf (wordOf_decode w)
  have hpos : 0 < opcodeTable.countP fun r => r.matchesWord w :=
    List.countP_pos_iff.mpr ⟨r, List.mem_of_getElem? hr, hmatch⟩
  have hle := countP_le_one_of_pairwise (opcodeTable_pairwise_exclusive w)
  omega

/-- Settles O3: the commands by the decoder's inverse, the illegal rows by their ranges of words. -/
theorem opcodeMapIsExact : Obligations.OpcodeMapIsExact := by
  refine ⟨by decide, fun i hi w => ?_, by decide, unknownOpcodeRows_any_iff, reservedBitsRows_matchesWord_iff,
    opcodeTable_countP_matchesWord⟩
  have hwf : i.wellFormed = true := by
    revert i
    decide
  have hmask : w &&& 0xFFFFFFFF#32 = w := BitVec.and_allOnes
  rw [hmask]
  constructor
  · rintro rfl
    exact (encode_decode w).symm
  · rintro rfl
    exact decodeOfEncodeIsIdentity i hwf

end Sys2Proof.Proofs
end

section
/-! PROOFS. The lifecycle of a command: acceptance (O6), overrun (O7), the snapshot (O8), completion (O9), the steps that
run a command (O13, O14) and WAIT (O16); no good state stops (O59), and a busy engine comes to rest (O60). -/

namespace Sys2Proof.Proofs

open Sys2Proof.Machine Sys2Proof.Safety

/-! ### Acceptance and overrun -/

theorem hostWrite_cmd (v : Word) (s : State) : hostWrite 0x008 4 v s = writeCmd v s :=
  hostWrite_regOffset (r := .cmd) nofun v s

theorem hostWriteResponse_cmd : hostWriteResponse 0x008 4 = .written :=
  hostWriteResponse_regOffset .cmd

theorem writeCmd_of_idle {s : State} (hb : s.busy = false) (v : Word) : writeCmd v s = acceptCommand v s := by
  simp [writeCmd, hb]

/-- Settles O6: the register at 0x008 is CMD. -/
theorem cmdWriteIsAcceptedWhenIdle : Obligations.CmdWriteIsAcceptedWhenIdle := by
  intro v s hb
  rw [hostWrite_cmd, writeCmd_of_idle hb]
  rfl

/-- Settles O7: CMD is no read-only register, so its write is answered even where the command is dropped. -/
theorem cmdWriteIsDroppedWhenBusy : Obligations.CmdWriteIsDroppedWhenBusy := by
  intro v s hb
  refine ⟨?_, hostWriteResponse_cmd⟩
  rw [hostWrite_cmd, writeCmd, if_pos hb]

/-! ### The snapshot -/

/-- The operand registers, those a snapshot copies (30_encoding.md R98). -/
def isOperand : Reg → Bool
  | .keyLen | .ivLen | .msgLen | .nLo | .nHi => true
  | .key _ | .iv _ | .din _ => true
  | _ => false

/-- A write to an operand register changes neither BUSY nor the command in flight. -/
theorem writeReg_operand_frame {r : Reg} (hr : isOperand r = true) (v : Word) (s : State) :
    (writeReg r v s).busy = s.busy ∧ (writeReg r v s).inflight = s.inflight := by
  cases r with
  | keyLen | ivLen | msgLen | nLo | nHi | key | iv | din => exact ⟨rfl, rfl⟩
  | _ => cases hr

/-- Settles O8: unpacking reads each byte off its register. -/
theorem snapshotCopiesOperandRegisters : Obligations.SnapshotCopiesOperandRegisters := by
  refine ⟨fun s j => ?_, fun s j => ?_, fun s => ⟨rfl, rfl, rfl, ?_⟩, fun r v s hr => ?_⟩
  · simp [snapshot, unpackBytes32, regByte]
  · simp [snapshot, unpackBlock, regByte]
  · rw [snapshot, BitVec.toNat_append, ← Nat.shiftLeft_add_eq_or_of_lt s.nLo.isLt, Nat.shiftLeft_eq]
  · have hop : isOperand r = true := by
      obtain h | ⟨k, rfl⟩ | ⟨k, rfl⟩ | ⟨k, rfl⟩ := hr
      · revert r
        decide
      all_goals rfl
    obtain ⟨-, hinflight⟩ := writeReg_operand_frame hop v s
    exact hinflight

/-! ### Completion -/

/-- No rule writes ERR_P: the completion alone records an error (60_exceptions.md R250). -/
theorem errP_of_ruleEffect {i : Instr} {s u : State} (h : RuleEffect i s u) : u.errP = s.errP := by
  cases h <;> simp

/-- The error record after a completion: as it was, or that of a listed error (30_encoding.md R99). -/
theorem errorRecord_finish {i : Instr} {s : State} {r : ExecResult} (heff : RuleEffect i s (endState r)) :
    ((finish r).err = s.err ∧ (finish r).errCode = s.errCode ∧ (finish r).subCause = s.subCause ∧
      (finish r).errP = s.errP) ∨
    ((finish r).err = true ∧ (finish r).errP = true ∧
      ∃ e : CmdError, (finish r).errCode = errCodeOf e ∧ (finish r).subCause = subCauseOf e) := by
  obtain ⟨herr, hcode, hsub⟩ := errorRecord_of_ruleEffect heff
  cases r with
  | completes u => 
    have herrP := errP_of_ruleEffect heff
    exact .inl ⟨herr, hcode, hsub, herrP⟩
  | raises e u => exact .inr ⟨rfl, rfl, e, rfl, rfl⟩

@[simp] theorem finish_doneP (r : ExecResult) : (finish r).doneP = true := by cases r <;> rfl

theorem exec_of_inFlightIs {i : Instr} {S : Snapshot} {s : State} (h : InFlightIs i S s) :
    exec i s = .next (finish (ruleOf i S s)) := by
  obtain ⟨hb, hf⟩ := h
  exact exec_of_inflight hb hf

/-- Settles O9: `exec` is `runCommand` of the instruction's rule, which ends in `finish`. -/
theorem everyCommandCompletes : Obligations.EveryCommandCompletes := by
  refine ⟨fun i s hb => ?_, fun i S s h => ?_⟩
  · rw [exec_eq_runCommand, runCommand_of_idle hb]
  · exact ⟨finish (ruleOf i S s), exec_of_inFlightIs h, finish_busy _, finish_done _, finish_doneP _,
      finish_inflight _, errorRecord_finish (ruleEffect_ruleOf i S s)⟩

/-! ### The steps of a command -/

/-- With nothing scheduled and BUSY = 0 the turn is the host's, and the schedule stays empty (log entry 2). -/
theorem step_of_hostOp_idle {s : State} {op : HostOp} {rest : List HostOp} (hb : s.busy = false)
    (hsched : s.schedule = []) (hprog : s.program = op :: rest) : step s = .next (hostOp op rest s) := by
  have htake : takeTurn s = s := by rw [takeTurn, hsched, List.tail_nil, ← hsched]
  simp [step, turnOf, hsched, hb, htake, hostTurn, hprog]

/-- Settles O13: with the schedule emptied the turn is the sequencer's. -/
theorem stepRunsTheFetchedWord : Obligations.StepRunsTheFetchedWord := by
  intro s nbits w i h
  have hi : decode (BitVec.ofNat 32 (w % 2 ^ nbits)) = i := by
    unfold decodeTableWord at h
    split at h
    · exact Option.some.inj h
    · cases h
  subst hi
  obtain ⟨-, hrun⟩ := stepRunsTheInflightCommand (s.withFetchWord nbits w) _ rfl rfl
  exact ⟨⟨rfl, rfl⟩, hrun rfl⟩

/-- Settles O14: the write is the host's turn, and it makes the next turn the sequencer's. -/
theorem cmdWriteThenCompletionAreTwoSteps : Obligations.CmdWriteThenCompletionAreTwoSteps := by
  intro s v rest hb hsched hprog
  refine ⟨{ acceptCommand v { s with program := rest } with resp := .written }, ?_, rfl, ⟨rfl, rfl⟩, ?_⟩
  · have haccept := writeCmd_of_idle (s := { s with program := rest }) hb v
    rw [step_of_hostOp_idle hb hsched hprog, hostOp, hostWrite_cmd, hostWriteResponse_cmd, haccept]
  · obtain ⟨-, hrun⟩ := stepRunsTheInflightCommand
      { acceptCommand v { s with program := rest } with resp := .written } _ rfl rfl
    exact hrun hsched

/-- Settles O16: WAIT tests bit 0 of STATUS, which is BUSY. -/
theorem waitPollsUntilIdle : Obligations.WaitPollsUntilIdle := by
  intro s rest turns hsched hprog
  obtain ⟨hbit, -⟩ := statusWord_flags { s with schedule := turns }
  constructor
  · intro hb
    rw [step_of_hostOp hsched hprog, hostOp, hbit, if_pos hb, ← hprog]
    rfl
  · intro hb
    rw [step_of_hostOp hsched hprog, hostOp, hbit, if_neg (Bool.eq_false_iff.mp hb)]
    rfl

/-! ### Every step goes on -/

/-- The next state of a good state's step exists: the sequencer finds a command where BUSY = 1 (10_state.md R31). -/
theorem exists_step_of_inflightInv {s : State} (h : InflightInv s) : ∃ t, step s = .next t := by
  cases hturn : turnOf s with
  | host => exact ⟨_, by rw [step, hturn]⟩
  | powerOnReset => exact ⟨_, by rw [step, hturn]⟩
  | sequencer =>
    cases hb : s.busy with
    | false => exact ⟨takeTurn s, by simp [step, hturn, hb]⟩
    | true =>
      obtain ⟨f, hf⟩ := Option.isSome_iff_exists.mp (h.busy_iff.mp hb)
      exact ⟨_, (step_of_sequencer hturn hb hf).trans (exec_of_inflight (s := takeTurn s) hb hf)⟩

/-- Settles O59. -/
theorem invariantStatesNeverStop : Obligations.InvariantStatesNeverStop := fun _ h =>
  exists_step_of_inflightInv h.inflight

/-! ### A busy engine comes to rest -/

theorem writeReg_schedule (r : Reg) (v : Word) (s : State) : (writeReg r v s).schedule = s.schedule := by
  cases r with
  | ctrl =>
    obtain ⟨-, h⟩ | ⟨-, h⟩ := writeCtrl_cases v s
    all_goals exact (congrArg State.schedule h :)
  | cmd =>
    obtain ⟨-, h⟩ | ⟨-, h⟩ := writeCmd_cases v s
    all_goals exact (congrArg State.schedule h :)
  | _ => rfl

theorem hostWrite_schedule (off size : Nat) (v : Word) (s : State) : (hostWrite off size v s).schedule = s.schedule := by
  obtain h | ⟨r, -, h⟩ := hostWrite_cases off size v s <;> rw [h]
  exact writeReg_schedule r v s

theorem hostTurn_schedule (s : State) : (hostTurn s).schedule = s.schedule := by
  obtain h | ⟨prog, resp, h⟩ | ⟨prog, resp, off, size, v, h⟩ := hostTurn_cases s <;> rw [h]
  exact hostWrite_schedule off size v _

/-- A step takes one turn off the schedule, whatever it does (log entry 2). -/
theorem step_schedule {s t : State} (h : step s = .next t) : t.schedule = s.schedule.tail := by
  obtain ⟨-, rfl⟩ | ⟨-, rfl⟩ | ⟨-, -, rfl⟩ | ⟨-, -, f, -, hexec⟩ := step_next h
  · exact hostTurn_schedule (takeTurn s)
  · rfl
  · rfl
  · obtain ⟨r, heff, rfl⟩ := exec_next_effect hexec
    obtain ⟨-, -, -, -, hsched, -⟩ := controls_of_ruleEffect heff
    exact (finish_schedule r).trans hsched

theorem runSteps_succ {s t : State} (h : step s = .next t) (n : Nat) : runSteps (n + 1) s = runSteps n t := by
  rw [runSteps, h]

/-- With nothing scheduled a command in flight is completed by the next step. -/
theorem busy_eq_false_of_step {s t : State} (hsched : s.schedule = []) (hb : s.busy = true) (h : step s = .next t) :
    t.busy = false := by
  have hturn : turnOf s = .sequencer := by simp [turnOf, hsched, hb]
  obtain ⟨ht, -⟩ | ⟨ht, -⟩ | ⟨-, hidle, -⟩ | ⟨-, -, f, -, hexec⟩ := step_next h
  · simp [hturn] at ht
  · simp [hturn] at ht
  · simp [hb] at hidle
  · obtain ⟨r, -, rfl⟩ := exec_next_effect hexec
    exact finish_busy r

theorem exists_runSteps_idle (turns : List Turn) {s : State} (h : EngineInv s) (hsched : s.schedule = turns) :
    ∃ n t, n ≤ turns.length + 1 ∧ runSteps n s = some t ∧ t.busy = false := by
  induction turns generalizing s with
  | nil =>
    obtain ⟨t, ht⟩ := exists_step_of_inflightInv h.inflight
    cases hb : s.busy with
    | false => exact ⟨0, s, by omega, rfl, hb⟩
    | true => exact ⟨1, t, by simp, runSteps_succ ht 0, busy_eq_false_of_step hsched hb ht⟩
  | cons turn rest ih =>
    obtain ⟨t, ht⟩ := exists_step_of_inflightInv h.inflight
    have hrest : t.schedule = rest := by rw [step_schedule ht, hsched, List.tail_cons]
    obtain ⟨n, u, hn, hrun, hu⟩ := ih (stepKeepsTheEngineInvariant s t h ht) hrest
    exact ⟨n + 1, u, by simpa using hn, (runSteps_succ ht n).trans hrun, hu⟩

/-- Settles O60, by induction on the schedule: its turns pass one a step, and then the command in flight completes. -/
theorem busyEngineComesToRest : Obligations.BusyEngineComesToRest := fun s h =>
  exists_runSteps_idle s.schedule h rfl

end Sys2Proof.Proofs
end

section
/-! PROOFS. The pseudo-instructions (30_encoding.md R101, R102; O29): runs of writes to operand registers and of reads, on
an idle engine with nothing scheduled. -/

namespace Sys2Proof.Proofs

open Sys2Proof.Machine Sys2Proof.Safety

/-! ### Runs of writes -/

theorem writeReg_withProgram {r : Reg} (hr : isOperand r = true) (v : Word) (s : State) (prog : List HostOp) :
    writeReg r v { s with program := prog } = { writeReg r v s with program := prog } := by
  cases r with
  | keyLen | ivLen | msgLen | nLo | nHi | key | iv | din => rfl
  | _ => cases hr

theorem regAccess_of_isOperand {r : Reg} (hr : isOperand r = true) : regAccess r ≠ .ro := by
  cases r with
  | keyLen | ivLen | msgLen | nLo | nHi | key | iv | din => nofun
  | _ => cases hr

/-- The step of a write to an operand register, on an idle engine with nothing scheduled. -/
theorem step_of_writeOp {r : Reg} (hr : isOperand r = true) {v : Word} {s : State} {rest : List HostOp}
    (hb : s.busy = false) (hsched : s.schedule = []) (hprog : s.program = writeOp r v :: rest) :
    step s = .next { writeReg r v s with program := rest, resp := .written } := by
  have hro := regAccess_of_isOperand hr
  rw [step_of_hostOp_idle hb hsched hprog, writeOp, hostOp, hostWriteResponse_regOffset, if_neg hro,
    hostWrite_regOffset hro, writeReg_withProgram hr]

/-- What a run of writes leaves: each word in its register, and the bus's answer to the last write. -/
def writeAll : List (Reg × Word) → State → State
  | [], s => s
  | (r, v) :: l, s => writeAll l { writeReg r v s with resp := .written }

/-- A program of writes to operand registers performs them, one a step (30_encoding.md R101). -/
theorem runSteps_writeOps {l : List (Reg × Word)} (hl : (l.all fun p => isOperand p.1) = true) {s : State}
    (hb : s.busy = false) (hsched : s.schedule = []) :
    runSteps l.length { s with program := l.map fun p => writeOp p.1 p.2 } =
      some { writeAll l s with program := [] } := by
  induction l generalizing s with
  | nil => rfl
  | cons p l ih =>
    obtain ⟨r, v⟩ := p
    rw [List.all_cons, Bool.and_eq_true] at hl
    obtain ⟨hr, hl⟩ := hl
    obtain ⟨hbusy, -⟩ := writeReg_operand_frame hr v s
    have hstep := step_of_writeOp hr (v := v)
      (s := { s with program := ((r, v) :: l).map fun p => writeOp p.1 p.2 }) hb hsched rfl
    rw [writeReg_withProgram hr] at hstep
    rw [List.length_cons, runSteps_succ hstep]
    exact ih (s := { writeReg r v s with resp := .written }) hl (hbusy.trans hb) ((writeReg_schedule r v s).trans hsched)

theorem writeAll_append (l l' : List (Reg × Word)) (s : State) :
    writeAll (l ++ l') s = writeAll l' (writeAll l s) := by
  induction l generalizing s with
  | nil => rfl
  | cons p l ih => exact ih _

/-- Setting the elements of `v` at all indices gives `v`. -/
theorem foldl_set_eq {n : Nat} (v : Vector Word n) {ks : List (Fin n)} {x : Vector Word n}
    (h : ∀ k : Fin n, k ∈ ks ∨ x[k] = v[k]) : ks.foldl (fun y k => y.set k v[k]) x = v := by
  induction ks generalizing x with
  | nil => exact Vector.ext fun i hi => (h ⟨i, hi⟩).resolve_left List.not_mem_nil
  | cons k ks ih =>
    refine ih fun j => ?_
    by_cases hjk : j = k
    · exact .inr (by simp [hjk])
    · refine (h j).imp (fun hj => (List.mem_cons.mp hj).resolve_left hjk) fun hj => ?_
      rw [← hj]
      exact Vector.getElem_set_ne _ _ fun hkj => hjk (Fin.ext hkj.symm)

section Vector

variable {n : Nat} {mk : Fin n → Reg} {put : Vector Word n → State → State}

/-- Writes to the registers of one vector, which `put` replaces in the state, set that vector's elements alone. -/
theorem writeAll_vector (hwrite : ∀ k v x s, writeReg (mk k) v (put x s) = put (x.set k v) s)
    (hresp : ∀ x s resp, { put x s with resp := resp } = put x { s with resp := resp })
    (v : Vector Word n) (ks : List (Fin n)) (x : Vector Word n) (s : State) :
    writeAll (ks.map fun k => (mk k, v[k])) (put x s) =
      put (ks.foldl (fun y (k : Fin n) => y.set k v[k]) x) { s with resp := ks.foldl (fun _ _ => .written) s.resp } := by
  induction ks generalizing x s with
  | nil => rfl
  | cons k ks ih =>
    rw [List.map_cons, writeAll, hwrite, hresp, ih]
    rfl

/-- A program of writes to all registers of a vector, then of the writes `l`, puts that vector into the state first. -/
theorem runSteps_writeVector (hwrite : ∀ k v x s, writeReg (mk k) v (put x s) = put (x.set k v) s)
    (hresp : ∀ x s resp, { put x s with resp := resp } = put x { s with resp := resp })
    {v : Vector Word n} {ks : List (Fin n)} (hks : ∀ k, k ∈ ks) {l : List (Reg × Word)}
    (hl : (((ks.map fun k => (mk k, v[k])) ++ l).all fun p => isOperand p.1) = true) {x : Vector Word n} {s : State}
    (hb : (put x s).busy = false) (hsched : (put x s).schedule = []) :
    runSteps ((ks.map fun k => (mk k, v[k])) ++ l).length
        { put x s with program := ((ks.map fun k => (mk k, v[k])) ++ l).map fun p => writeOp p.1 p.2 } =
      some { writeAll l (put v { s with resp := ks.foldl (fun _ _ => .written) s.resp }) with program := [] } := by
  rw [runSteps_writeOps hl hb hsched, writeAll_append, writeAll_vector hwrite hresp,
    foldl_set_eq v fun k => .inl (hks k)]

end Vector

/-! ### Runs of reads -/

/-- No register shows the host's program or the bus's answer. -/
theorem readReg_withHost (s : State) (prog : List HostOp) (resp : BusResponse) (r : Reg) :
    readReg { s with program := prog, resp := resp } r = readReg s r := by
  cases r <;> rfl

/-- The step of a read, on an idle engine with nothing scheduled. -/
theorem step_of_readOp {r : Reg} {s : State} {rest : List HostOp} (hb : s.busy = false) (hsched : s.schedule = [])
    (hprog : s.program = readOp r :: rest) :
    step s = .next { s with program := rest, resp := .data (readReg s r) } := by
  rw [step_of_hostOp_idle hb hsched hprog, readOp, hostOp, hostRead_regOffset]

/-- A program of reads, `n` of them performed and one more: the bus holds that register's value. -/
theorem runSteps_readOps {l : List Reg} {n : Nat} (hn : n < l.length) {s : State} (hb : s.busy = false)
    (hsched : s.schedule = []) :
    runSteps (n + 1) { s with program := l.map readOp } =
      some { s with program := (l.map readOp).drop (n + 1), resp := .data (readReg s l[n]) } := by
  induction l generalizing s n with
  | nil => cases hn
  | cons r l ih =>
    have hstep := step_of_readOp (s := { s with program := (r :: l).map readOp }) hb hsched rfl
    rw [runSteps_succ hstep]
    cases n with
    | zero => rw [runSteps, readReg_withHost s _ s.resp]; rfl
    | succ n =>
      have hrest := ih (n := n) (by simpa using hn)
        (s := { s with resp := .data (readReg { s with program := (r :: l).map readOp } r) }) hb hsched
      rw [readReg_withHost s s.program] at hrest
      exact hrest

/-! ### The pseudo-instructions -/

section Idle

variable {s : State}

/-- WRKEY sets KEY0..KEY7 and KEY_LEN (20_memory.md R68, R69). -/
theorem runSteps_wrkey (hb : s.busy = false) (hsched : s.schedule = []) (b : Bytes32) :
    runSteps 9 (withProgram [.wrkey b] s) =
      some { s with key := packBytes32 b, keyLen := 32, program := [], resp := .written } :=
  runSteps_writeVector (mk := .key) (put := fun x s => { s with key := x }) (fun _ _ _ _ => rfl) (fun _ _ _ => rfl)
    mem_index8 (l := [(.keyLen, 32)]) rfl hb hsched

/-- WRIV sets IV0..IV7 and IV_LEN (20_memory.md R68, R69). -/
theorem runSteps_wriv (hb : s.busy = false) (hsched : s.schedule = []) (b : Bytes32) :
    runSteps 9 (withProgram [.wriv b] s) =
      some { s with iv := packBytes32 b, ivLen := 32, program := [], resp := .written } :=
  runSteps_writeVector (mk := .iv) (put := fun x s => { s with iv := x }) (fun _ _ _ _ => rfl) (fun _ _ _ => rfl)
    mem_index8 (l := [(.ivLen, 32)]) rfl hb hsched

/-- WRBLK sets DIN0..DIN3 (20_memory.md R68, R69). -/
theorem runSteps_wrblk (hb : s.busy = false) (hsched : s.schedule = []) (b : Block) :
    runSteps 4 (withProgram [.wrblk b] s) = some { s with din := packBlock b, program := [], resp := .written } :=
  runSteps_writeVector (mk := .din) (put := fun x s => { s with din := x }) (fun _ _ _ _ => rfl) (fun _ _ _ => rfl)
    mem_index4 (l := []) rfl hb hsched

/-- WRN sets N_LO and N_HI (30_encoding.md R102). -/
theorem runSteps_wrn (hb : s.busy = false) (hsched : s.schedule = []) (n : BitVec 64) :
    runSteps 2 (withProgram [.wrn n] s) =
      some { s with nLo := n.extractLsb' 0 32, nHi := n.extractLsb' 32 32, program := [], resp := .written } :=
  runSteps_writeOps (l := [(.nLo, n.extractLsb' 0 32), (.nHi, n.extractLsb' 32 32)]) rfl hb hsched

/-- RDBLK reads DOUT0..DOUT3 in turn (30_encoding.md R102). -/
theorem runSteps_rdblk (hb : s.busy = false) (hsched : s.schedule = []) (k : Fin 4) :
    runSteps (k.val + 1) (withProgram [.rdblk] s) =
      some { s with program := (assemble [.rdblk]).drop (k.val + 1), resp := .data s.dout[k] } := by
  have hk : k.val < (index4.map Reg.dout).length := k.isLt
  have hreg : (index4.map Reg.dout)[k.val] = .dout k := by
    revert k
    decide
  have hrun := runSteps_readOps hk hb hsched
  rw [hreg] at hrun
  exact hrun

end Idle

/-- The two halves of n in N_HI:N_LO are n (20_memory.md R69). -/
theorem extractLsb'_append_halves (n : BitVec 64) : n.extractLsb' 32 32 ++ n.extractLsb' 0 32 = n := by
  rw [BitVec.extractLsb'_append_extractLsb'_eq_extractLsb' (by decide)]
  exact BitVec.extractLsb'_eq_self

/-- Settles O29: each pseudo-instruction is a run of writes or of reads, and unpacking undoes the packing of its
operands. -/
theorem wrkeyLoadsTheKey : Obligations.WrkeyLoadsTheKey := by
  refine ⟨fun r v i => ⟨rfl, rfl, rfl, rfl, rfl, rfl⟩, fun s hb hsched => ⟨fun b => ?_, fun b => ?_, fun b => ?_,
    fun n => ?_, runSteps_rdblk hb hsched⟩⟩
  · exact ⟨runSteps_wrkey hb hsched b, unpackBytes32_packBytes32 b⟩
  · exact ⟨runSteps_wriv hb hsched b, unpackBytes32_packBytes32 b⟩
  · exact ⟨runSteps_wrblk hb hsched b, unpackBlock_packBlock b⟩
  · exact ⟨runSteps_wrn hb hsched n, extractLsb'_append_halves n⟩

end Sys2Proof.Proofs
end

section
/-! PROOFS. The field of the cipher's bytes: its product is bilinear, commutative and associative (40_aes_primitives.md
R121), and the S-box tables are the affine map of the inverse and its inverse permutation (R122, R123; O45). -/

namespace Sys2Proof.Proofs

open Sys2Proof.Machine

/-! ### Multiplication by x -/

theorem xtime_xor (a b : Byte) : xtime (a ^^^ b) = xtime a ^^^ xtime b := by
  have hreduce : ∀ p q : Bool, (if (p ^^ q) = true then 0x1B#8 else 0#8) =
      (if p = true then 0x1B#8 else 0#8) ^^^ (if q = true then 0x1B#8 else 0#8) := by decide
  rw [xtime, BitVec.shiftLeft_xor_distrib, BitVec.getLsbD_xor, hreduce, xtime, xtime]
  ac_rfl

theorem xtimes_succ (k : Nat) (a : Byte) : xtimes (k + 1) a = xtime (xtimes k a) := rfl

theorem xtimes_xtime (k : Nat) (a : Byte) : xtimes k (xtime a) = xtime (xtimes k a) := by
  induction k with
  | zero => rfl
  | succ k ih => rw [xtimes_succ, ih, xtimes_succ]

theorem xtimes_xor (k : Nat) (a b : Byte) : xtimes k (a ^^^ b) = xtimes k a ^^^ xtimes k b := by
  induction k with
  | zero => rfl
  | succ k ih => rw [xtimes_succ, ih, xtime_xor, xtimes_succ, xtimes_succ]

/-! ### The product as its eight terms -/

/-- The term of bit `i` of `b` in the product `a • b` (40_aes_primitives.md R121). -/
def gmulTerm (a b : Byte) (i : Nat) : Byte := if b.getLsbD i then xtimes i a else 0#8

theorem gmul_eq_terms (a b : Byte) : gmul a b = gmulTerm a b 0 ^^^ gmulTerm a b 1 ^^^ gmulTerm a b 2 ^^^
    gmulTerm a b 3 ^^^ gmulTerm a b 4 ^^^ gmulTerm a b 5 ^^^ gmulTerm a b 6 ^^^ gmulTerm a b 7 := by
  simp only [gmul, gmulTerm, List.range_succ, List.range_zero, List.nil_append, List.foldl_append, List.foldl_cons,
    List.foldl_nil, BitVec.zero_xor]

theorem gmulTerm_xor_left (a b c : Byte) (i : Nat) : gmulTerm (a ^^^ b) c i = gmulTerm a c i ^^^ gmulTerm b c i := by
  simp only [gmulTerm]
  split
  · exact xtimes_xor i a b
  · rfl

theorem gmulTerm_xtime_left (a b : Byte) (i : Nat) : gmulTerm (xtime a) b i = xtime (gmulTerm a b i) := by
  simp only [gmulTerm]
  split
  · exact xtimes_xtime i a
  · rfl

theorem gmul_xor_left (a b c : Byte) : gmul (a ^^^ b) c = gmul a c ^^^ gmul b c := by
  simp only [gmul_eq_terms, gmulTerm_xor_left]
  ac_rfl

theorem gmul_xtime_left (a b : Byte) : gmul (xtime a) b = xtime (gmul a b) := by
  simp only [gmul_eq_terms, gmulTerm_xtime_left, xtime_xor]

theorem gmul_xtimes_left (k : Nat) (a b : Byte) : gmul (xtimes k a) b = xtimes k (gmul a b) := by
  induction k with
  | zero => rfl
  | succ k ih => rw [xtimes_succ, gmul_xtime_left, ih, xtimes_succ]

/-! ### The ring laws -/

theorem zero_gmul (a : Byte) : gmul 0#8 a = 0#8 := by
  have h := gmul_xor_left 0#8 0#8 a
  rwa [BitVec.xor_self, BitVec.xor_self] at h

theorem one_gmul : ∀ a : Byte, gmul 0x01#8 a = a := by decide +kernel

theorem gmul_gmulTerm_left (a b c : Byte) (i : Nat) : gmul (gmulTerm a b i) c = gmulTerm (gmul a c) b i := by
  simp only [gmulTerm]
  split
  · exact gmul_xtimes_left i a c
  · exact zero_gmul c

/-- The terms of `a • b`, each times `c`, are the terms of `(a • c) • b`. -/
theorem gmul_right_comm (a b c : Byte) : gmul (gmul a b) c = gmul (gmul a c) b := by
  rw [gmul_eq_terms a b, gmul_eq_terms (gmul a c) b]
  simp only [gmul_xor_left, gmul_gmulTerm_left]

theorem gmul_comm (a b : Byte) : gmul a b = gmul b a := by
  have h := gmul_right_comm 0x01#8 a b
  rwa [one_gmul, one_gmul] at h

theorem gmul_assoc (a b c : Byte) : gmul (gmul a b) c = gmul a (gmul b c) := by
  rw [gmul_comm a b, gmul_right_comm, gmul_comm]

theorem gmul_xor_right (a b c : Byte) : gmul a (b ^^^ c) = gmul a b ^^^ gmul a c := by
  rw [gmul_comm, gmul_xor_left, gmul_comm b, gmul_comm c]

/-! ### The coefficients of MixColumns and InvMixColumns (40_aes_primitives.md R126) -/

theorem two_gmul (a : Byte) : gmul 0x02#8 a = xtime a := by
  rw [show 0x02#8 = xtime 0x01#8 by decide, gmul_xtime_left, one_gmul]

theorem three_gmul (a : Byte) : gmul 0x03#8 a = xtime a ^^^ a := by
  rw [show 0x03#8 = 0x02#8 ^^^ 0x01#8 by decide, gmul_xor_left, two_gmul, one_gmul]

theorem four_gmul (a : Byte) : gmul 0x04#8 a = xtime (xtime a) := by
  rw [show 0x04#8 = xtime 0x02#8 by decide, gmul_xtime_left, two_gmul]

theorem eight_gmul (a : Byte) : gmul 0x08#8 a = xtime (xtime (xtime a)) := by
  rw [show 0x08#8 = xtime 0x04#8 by decide, gmul_xtime_left, four_gmul]

theorem nine_gmul (a : Byte) : gmul 0x09#8 a = xtime (xtime (xtime a)) ^^^ a := by
  rw [show 0x09#8 = 0x08#8 ^^^ 0x01#8 by decide, gmul_xor_left, eight_gmul, one_gmul]

theorem eleven_gmul (a : Byte) : gmul 0x0B#8 a = xtime (xtime (xtime a)) ^^^ xtime a ^^^ a := by
  rw [show 0x0B#8 = 0x08#8 ^^^ 0x03#8 by decide, gmul_xor_left, eight_gmul, three_gmul, BitVec.xor_assoc]

theorem thirteen_gmul (a : Byte) : gmul 0x0D#8 a = xtime (xtime (xtime a)) ^^^ xtime (xtime a) ^^^ a := by
  rw [show 0x0D#8 = 0x08#8 ^^^ 0x04#8 ^^^ 0x01#8 by decide, gmul_xor_left, gmul_xor_left, eight_gmul, four_gmul,
    one_gmul]

theorem fourteen_gmul (a : Byte) : gmul 0x0E#8 a = xtime (xtime (xtime a)) ^^^ xtime (xtime a) ^^^ xtime a := by
  rw [show 0x0E#8 = 0x08#8 ^^^ 0x04#8 ^^^ 0x02#8 by decide, gmul_xor_left, gmul_xor_left, eight_gmul, four_gmul,
    two_gmul]

/-! ### The S-boxes -/

/-- The affine map of the S-box (40_aes_primitives.md R122). -/
def affineMap (b : Byte) : Byte :=
  b ^^^ b.rotateLeft 1 ^^^ b.rotateLeft 2 ^^^ b.rotateLeft 3 ^^^ b.rotateLeft 4 ^^^ 0x63#8

/-- The way back from an entry of the S-box to the byte whose affine map it is. -/
def affineInverse (b : Byte) : Byte := b.rotateLeft 1 ^^^ b.rotateLeft 3 ^^^ b.rotateLeft 6 ^^^ 0x05#8

theorem affineMap_affineInverse : ∀ b : Byte, affineMap (affineInverse b) = b := by decide +kernel

/-- The S-box's entry for a nonzero byte is the affine map of its multiplicative inverse: the table's 255 entries. -/
theorem gmul_affineInverse_sbox : ∀ a : Byte, a ≠ 0#8 → gmul a (affineInverse (sbox a)) = 0x01#8 := by
  decide +kernel

theorem invSbox_sbox : ∀ a : Byte, invSbox (sbox a) = a := by decide +kernel

/-- A left inverse on the 256 bytes is a right inverse. -/
theorem sbox_invSbox : ∀ a : Byte, sbox (invSbox a) = a := by
  have hleft : Function.LeftInverse invSbox sbox := invSbox_sbox
  exact hleft.rightInverse_of_surjective (Finite.surjective_of_injective hleft.injective)

/-- Settles O45: the product by its eight terms, the tables by their entries. -/
theorem sboxesAreTheAffineInverse : Obligations.SboxesAreTheAffineInverse := by
  refine ⟨gmul_eq_terms, by decide, by decide, by decide, by decide, by decide, fun a ha => ?_, invSbox_sbox,
    sbox_invSbox⟩
  exact ⟨affineInverse (sbox a), gmul_affineInverse_sbox a ha, (affineMap_affineInverse _).symm⟩

end Sys2Proof.Proofs
end

section
/-! PROOFS. The key expansion: the byte laws of its words, its first words and its recurrence (40_aes_primitives.md R128,
R129, R130; O46). -/

namespace Sys2Proof.Proofs

open Sys2Proof.Machine

/-! ### The bytes of a schedule word -/

/-- Byte 0 is the most significant (40_aes_primitives.md R120). -/
theorem wordByte_append (b0 b1 b2 b3 : Byte) :
    let w : Word := b0 ++ b1 ++ b2 ++ b3
    wordByte w 0 = b0 ∧ wordByte w 1 = b1 ∧ wordByte w 2 = b2 ∧ wordByte w 3 = b3 := by
  have last {n : Nat} (x : BitVec n) (b : Byte) : (x ++ b).extractLsb' 0 8 = b := BitVec.extractLsb'_append_eq_right
  have init {n : Nat} (k : Nat) (x : BitVec n) (b : Byte) : (x ++ b).extractLsb' (k + 8) 8 = x.extractLsb' k 8 := by
    rw [BitVec.extractLsb'_append_eq_of_le (Nat.le_add_left 8 k), Nat.add_sub_cancel]
  have h2 := last (b0 ++ b1) b2
  have h1 := (init 0 (b0 ++ b1) b2).trans (last b0 b1)
  have h0 := (init 8 (b0 ++ b1) b2).trans ((init 0 b0 b1).trans BitVec.extractLsb'_eq_self)
  exact ⟨(init 16 _ b3).trans h0, (init 8 _ b3).trans h1, (init 0 _ b3).trans h2, last _ b3⟩

theorem subWord_append (b0 b1 b2 b3 : Byte) :
    subWord (b0 ++ b1 ++ b2 ++ b3) = sbox b0 ++ sbox b1 ++ sbox b2 ++ sbox b3 := by
  obtain ⟨h0, h1, h2, h3⟩ := wordByte_append b0 b1 b2 b3
  rw [subWord, h0, h1, h2, h3]

theorem append_firstByte (b0 b1 b2 b3 : Byte) :
    (b0 ++ b1 ++ b2 ++ b3 : Word) = b0 ++ (b1 ++ b2 ++ b3 : BitVec 24) := by
  apply BitVec.eq_of_toNat_eq
  simp only [BitVec.toNat_append, Nat.shiftLeft_or_distrib, ← Nat.shiftLeft_add, Nat.or_assoc]

theorem rotWord_append_firstByte (b : Byte) (rest : BitVec 24) : rotWord (b ++ rest) = rest ++ b := by
  apply BitVec.eq_of_getLsbD_eq
  intro i hi
  simp only [rotWord, BitVec.getLsbD_rotateLeft, BitVec.getLsbD_append]
  by_cases h : i < 8
  · simp [h]
  · simp [h, hi, show i - 8 < 24 by omega]

theorem rotWord_append (b0 b1 b2 b3 : Byte) : rotWord (b0 ++ b1 ++ b2 ++ b3) = b1 ++ b2 ++ b3 ++ b0 := by
  rw [append_firstByte]
  exact rotWord_append_firstByte b0 (b1 ++ b2 ++ b3)

theorem rcon_append_zero (b : Byte) : b ++ (0 : BitVec 24) = b.setWidth 32 <<< 24 := by
  rw [BitVec.append_def, BitVec.shiftLeftZeroExtend_eq]
  exact BitVec.or_zero

/-! ### The loop -/

theorem schedWord_eq (w : Schedule) {i : Nat} (hi : i < 60) : schedWord w i = w[i] := by
  simp only [schedWord, Vector.get_eq_getElem, Fin.val_ofNat, Nat.mod_eq_of_lt hi]

theorem schedWord_expandStep_self (w : Schedule) {i : Nat} (hi : i < 60) :
    schedWord (expandStep w i) i = schedWord w (i - 8) ^^^ scheduleTemp i (schedWord w (i - 1)) := by
  rw [schedWord_eq _ hi, expandStep, Vector.set!_eq_setIfInBounds, Vector.getElem_setIfInBounds_self]

theorem schedWord_expandStep_of_ne (w : Schedule) {i j : Nat} (hj : j < 60) (h : i ≠ j) :
    schedWord (expandStep w i) j = schedWord w j := by
  rw [schedWord_eq _ hj, schedWord_eq _ hj, expandStep, Vector.set!_eq_setIfInBounds,
    Vector.getElem_setIfInBounds_ne hj h]

/-- The loop's turns from `m` on keep every word below W[m]. -/
theorem schedWord_foldl_expandStep_of_lt (w : Schedule) {m j : Nat} (hj : j < 60) (h : j < m) (n : Nat) :
    schedWord ((List.range' m n).foldl expandStep w) j = schedWord w j := by
  induction n with
  | zero => rfl
  | succ n ih => rw [List.range'_1_concat, List.foldl_concat, schedWord_expandStep_of_ne _ hj (by omega), ih]

theorem keyExpansion_eq (k : Bytes32) :
    keyExpansion k = (List.range' 8 52).foldl expandStep (initialSchedule k) := by
  unfold keyExpansion
  rfl

theorem schedWord_keyExpansion_eq_keyWord (k : Bytes32) (i : Fin 8) :
    schedWord (keyExpansion k) i.val = keyWord k i := by
  have hi : i.val < 60 := by omega
  rw [keyExpansion_eq, schedWord_foldl_expandStep_of_lt _ hi i.isLt, schedWord_eq _ hi]
  simp [initialSchedule]

/-- Turn `i` of the loop sets W[i] from two words that neither it nor a later turn changes, and no later turn changes
W[i] (40_aes_primitives.md R130). -/
theorem schedWord_keyExpansion_recurrence (k : Bytes32) {i : Nat} (h8 : 8 ≤ i) (h60 : i < 60) :
    schedWord (keyExpansion k) i =
      schedWord (keyExpansion k) (i - 8) ^^^ scheduleTemp i (schedWord (keyExpansion k) (i - 1)) := by
  have hsplit : List.range' 8 52 = List.range' 8 (i - 8) ++ i :: List.range' (i + 1) (59 - i) := by
    rw [← List.range'_succ, show i = 8 + (i - 8) by omega, Nat.add_sub_cancel_left, List.range'_append_1]
    congr 1
    omega
  rw [keyExpansion_eq, hsplit, List.foldl_append, List.foldl_cons]
  generalize (List.range' 8 (i - 8)).foldl expandStep (initialSchedule k) = before
  have hearlier (j : Nat) (hj : j < i) :
      schedWord ((List.range' (i + 1) (59 - i)).foldl expandStep (expandStep before i)) j = schedWord before j := by
    rw [schedWord_foldl_expandStep_of_lt _ (by omega) (by omega), schedWord_expandStep_of_ne _ (by omega) (by omega)]
  rw [hearlier (i - 8) (by omega), hearlier (i - 1) (by omega),
    schedWord_foldl_expandStep_of_lt _ h60 (Nat.lt_succ_self i), schedWord_expandStep_self _ h60]

/-- Settles O46: the byte laws, the first words as the key's, and the loop's turn for the others. -/
theorem keyExpansionRecurrence : Obligations.KeyExpansionRecurrence := by
  refine ⟨fun w i => schedWord_eq w i.isLt, by decide,
    fun b0 b1 b2 b3 => ⟨rotWord_append b0 b1 b2 b3, subWord_append b0 b1 b2 b3⟩,
    schedWord_keyExpansion_eq_keyWord, fun x i => ?_, fun k i h8 h60 => ?_⟩
  · rw [schedWord_keyExpansion_eq_keyWord, keyWord]
    simp [unpackBytes32, regByte, Nat.mul_add_div]
  · dsimp only
    rw [schedWord_keyExpansion_recurrence k h8 h60, scheduleTemp, rcon_append_zero]

end Sys2Proof.Proofs
end

section
/-! PROOFS. The cipher and its inverse: what each step does to the AES state, that each step is undone by its inverse step,
so each round by its inverse round and Cipher by InvCipher (40_aes_primitives.md R120, R124 to R127, R131 to R133; O47). -/

namespace Sys2Proof.Proofs

open Sys2Proof.Machine

/-! ### The AES state -/

@[simp] theorem cell_ofCells (f : Fin 4 → Fin 4 → Byte) (r c : Fin 4) : cell (ofCells f) r c = f r c := by
  have hr : Fin.ofNat 4 (r.val + 4 * c.val) = r := by ext; simp
  have hc : Fin.ofNat 4 ((r.val + 4 * c.val) / 4) = c := by ext; simp; omega
  simp only [cell, ofCells, Vector.getElem_ofFn, hr, hc]

/-- A block is its sixteen cells (40_aes_primitives.md R120). -/
theorem block_ext {s t : Block} (h : ∀ r c, cell s r c = cell t r c) : s = t := by
  refine Vector.ext fun i hi => ?_
  have hcell := h ⟨i % 4, Nat.mod_lt _ (by decide)⟩ ⟨i / 4, by omega⟩
  simpa only [cell, Nat.mod_add_div] using hcell

theorem getElem_column (s : Block) (r c : Fin 4) : s[4 * c.val + r.val] = cell s r c :=
  getElem_congr_idx (Nat.add_comm _ _)

/-! ### SubBytes, ShiftRows and AddRoundKey -/

theorem invSubBytes_subBytes (s : Block) : invSubBytes (subBytes s) = s := by
  simp [invSubBytes, subBytes, Function.comp_def, invSbox_sbox]

theorem subBytes_invSubBytes (s : Block) : subBytes (invSubBytes s) = s := by
  simp [invSubBytes, subBytes, Function.comp_def, sbox_invSbox]

@[simp] theorem cell_shiftRows (s : Block) (r c : Fin 4) : cell (shiftRows s) r c = cell s r (c + r) :=
  cell_ofCells _ r c

@[simp] theorem cell_invShiftRows (s : Block) (r c : Fin 4) : cell (invShiftRows s) r c = cell s r (c - r) :=
  cell_ofCells _ r c

theorem invShiftRows_shiftRows (s : Block) : invShiftRows (shiftRows s) = s :=
  block_ext fun r c => by rw [cell_invShiftRows, cell_shiftRows, sub_add_cancel]

theorem shiftRows_invShiftRows (s : Block) : shiftRows (invShiftRows s) = s :=
  block_ext fun r c => by rw [cell_shiftRows, cell_invShiftRows, add_sub_cancel_right]

@[simp] theorem cell_addRoundKey (w : Schedule) (round : Nat) (s : Block) (r c : Fin 4) :
    cell (addRoundKey w round s) r c = cell s r c ^^^ wordByte (schedWord w (4 * round + c.val)) r :=
  cell_ofCells _ r c

theorem addRoundKey_addRoundKey (w : Schedule) (round : Nat) (s : Block) :
    addRoundKey w round (addRoundKey w round s) = s :=
  block_ext fun r c => by rw [cell_addRoundKey, cell_addRoundKey, BitVec.xor_assoc, BitVec.xor_self, BitVec.xor_zero]

/-! ### MixColumns -/

theorem cell_mixWith (k0 k1 k2 k3 : Byte) (s : Block) (r c : Fin 4) : cell (mixWith k0 k1 k2 k3 s) r c =
    gmul k0 (cell s r c) ^^^ gmul k1 (cell s (r + 1) c) ^^^ gmul k2 (cell s (r + 2) c) ^^^ gmul k3 (cell s (r + 3) c) :=
  cell_ofCells _ r c

/-- The four rows of a column times the circulant matrix (40_aes_primitives.md R126). -/
theorem mixWith_rows (k0 k1 k2 k3 : Byte) (s : Block) (c : Fin 4) :
    (mixWith k0 k1 k2 k3 s)[4 * c.val] = gmul k0 s[4 * c.val] ^^^ gmul k1 s[4 * c.val + 1] ^^^
      gmul k2 s[4 * c.val + 2] ^^^ gmul k3 s[4 * c.val + 3] ∧
    (mixWith k0 k1 k2 k3 s)[4 * c.val + 1] = gmul k3 s[4 * c.val] ^^^ gmul k0 s[4 * c.val + 1] ^^^
      gmul k1 s[4 * c.val + 2] ^^^ gmul k2 s[4 * c.val + 3] ∧
    (mixWith k0 k1 k2 k3 s)[4 * c.val + 2] = gmul k2 s[4 * c.val] ^^^ gmul k3 s[4 * c.val + 1] ^^^
      gmul k0 s[4 * c.val + 2] ^^^ gmul k1 s[4 * c.val + 3] ∧
    (mixWith k0 k1 k2 k3 s)[4 * c.val + 3] = gmul k1 s[4 * c.val] ^^^ gmul k2 s[4 * c.val + 1] ^^^
      gmul k3 s[4 * c.val + 2] ^^^ gmul k0 s[4 * c.val + 3] := by
  have row (r : Fin 4) := (getElem_column (mixWith k0 k1 k2 k3 s) r c).trans (cell_mixWith k0 k1 k2 k3 s r c)
  simp only [← getElem_column] at row
  refine ⟨row 0, (row 1).trans ?_, (row 2).trans ?_, (row 3).trans ?_⟩
  all_goals
    dsimp
    ac_rfl

/-- Circulant matrices multiply as their first rows do cyclically. -/
theorem mixWith_mixWith (k0 k1 k2 k3 l0 l1 l2 l3 : Byte) (s : Block) :
    mixWith k0 k1 k2 k3 (mixWith l0 l1 l2 l3 s) =
      mixWith (gmul k0 l0 ^^^ gmul k1 l3 ^^^ gmul k2 l2 ^^^ gmul k3 l1)
        (gmul k0 l1 ^^^ gmul k1 l0 ^^^ gmul k2 l3 ^^^ gmul k3 l2)
        (gmul k0 l2 ^^^ gmul k1 l1 ^^^ gmul k2 l0 ^^^ gmul k3 l3)
        (gmul k0 l3 ^^^ gmul k1 l2 ^^^ gmul k2 l1 ^^^ gmul k3 l0) s := by
  refine block_ext fun r c => ?_
  simp only [cell_mixWith, gmul_xor_right, gmul_xor_left, gmul_assoc, add_assoc, Fin.reduceAdd, Fin.isValue, add_zero]
  ac_rfl

theorem mixWith_one (s : Block) : mixWith 0x01#8 0#8 0#8 0#8 s = s :=
  block_ext fun r c => by simp only [cell_mixWith, one_gmul, zero_gmul, BitVec.xor_zero]

/-- The two matrices are inverse: the product of their first rows is 1, 0, 0, 0. -/
theorem invMixColumns_mixColumns (s : Block) : invMixColumns (mixColumns s) = s := by
  rw [invMixColumns, mixColumns, mixWith_mixWith]
  exact mixWith_one s

theorem mixColumns_invMixColumns (s : Block) : mixColumns (invMixColumns s) = s := by
  rw [invMixColumns, mixColumns, mixWith_mixWith]
  exact mixWith_one s

/-! ### Loops over the rounds -/

/-- A loop over 1..n ends in the last of its states, however they are named. -/
theorem foldl_range'_eq {α : Type} {f : α → Nat → α} {st : Nat → α} {n : Nat}
    (h : ∀ r, 1 ≤ r → r ≤ n → st r = f (st (r - 1)) r) : (List.range' 1 n).foldl f (st 0) = st n := by
  induction n with
  | zero => rfl
  | succ n ih =>
    have hlast := h (n + 1) (by omega) le_rfl
    rw [List.range'_1_concat, List.foldl_concat, ih fun r h1 hr => h r h1 (by omega), Nat.add_comm 1 n, hlast,
      Nat.add_sub_cancel]

/-- A loop over n down to 1 ends in the last of its states, however they are named. -/
theorem foldl_reverse_range'_eq {α : Type} {f : α → Nat → α} {st : Nat → α} {n : Nat}
    (h : ∀ r, 1 ≤ r → r ≤ n → st r = f (st (r + 1)) r) : (List.range' 1 n).reverse.foldl f (st (n + 1)) = st 1 := by
  induction n with
  | zero => rfl
  | succ n ih =>
    have hfirst := h (n + 1) (by omega) le_rfl
    rw [List.range'_1_concat, List.reverse_concat, List.foldl_cons, Nat.add_comm 1 n, ← hfirst,
      ih fun r h1 hr => h r h1 (by omega)]

/-- A loop of `f` is undone by the reverse loop of `g`, seen through `h`, if each turn is. -/
theorem foldl_reverse_undo {α : Type} {f g : α → Nat → α} {h : α → α} (hundo : ∀ s r, g (h (f s r)) r = h s)
    (l : List Nat) (s : α) : l.reverse.foldl g (h (l.foldl f s)) = h s := by
  induction l generalizing s with
  | nil => rfl
  | cons r l ih => rw [List.reverse_cons, List.foldl_concat, List.foldl_cons, ih, hundo]

/-! ### The cipher and its inverse -/

theorem cipher_eq (w : Schedule) (b : Block) : cipher w b =
    addRoundKey w 14 (shiftRows (subBytes ((List.range' 1 13).foldl (cipherRound w) (addRoundKey w 0 b)))) := by
  unfold cipher
  rfl

theorem invCipher_eq (w : Schedule) (b : Block) : invCipher w b = addRoundKey w 0
    (invSubBytes (invShiftRows ((List.range' 1 13).reverse.foldl (invCipherRound w) (addRoundKey w 14 b)))) := by
  unfold invCipher
  rfl

/-- A round of InvCipher takes the state after SubBytes and ShiftRows of one round to that of the round before. -/
theorem invCipherRound_cipherRound (w : Schedule) (s : Block) (r : Nat) :
    invCipherRound w (shiftRows (subBytes (cipherRound w s r))) r = shiftRows (subBytes s) := by
  rw [invCipherRound, invShiftRows_shiftRows, invSubBytes_subBytes, cipherRound, addRoundKey_addRoundKey,
    invMixColumns_mixColumns]

theorem cipherRound_invCipherRound (w : Schedule) (s : Block) (r : Nat) :
    cipherRound w (invSubBytes (invShiftRows (invCipherRound w s r))) r = invSubBytes (invShiftRows s) := by
  rw [cipherRound, subBytes_invSubBytes, shiftRows_invShiftRows, invCipherRound, mixColumns_invMixColumns,
    addRoundKey_addRoundKey]

theorem invCipher_cipher (w : Schedule) (b : Block) : invCipher w (cipher w b) = b := by
  rw [cipher_eq, invCipher_eq, addRoundKey_addRoundKey,
    foldl_reverse_undo (h := fun s => shiftRows (subBytes s)) (invCipherRound_cipherRound w),
    invShiftRows_shiftRows, invSubBytes_subBytes, addRoundKey_addRoundKey]

theorem cipher_invCipher (w : Schedule) (b : Block) : cipher w (invCipher w b) = b := by
  have hrounds := foldl_reverse_undo (h := fun s => invSubBytes (invShiftRows s)) (cipherRound_invCipherRound w)
    (List.range' 1 13).reverse (addRoundKey w 14 b)
  rw [List.reverse_reverse] at hrounds
  rw [invCipher_eq, cipher_eq, addRoundKey_addRoundKey, hrounds, subBytes_invSubBytes, shiftRows_invShiftRows,
    addRoundKey_addRoundKey]

/-- FIPS-197 C.3, the example of 40_aes_primitives.md R131. -/
theorem cipher_fips197 : cipher (keyExpansion (Vector.ofFn fun i : Fin 32 => BitVec.ofNat 8 i.val))
    (Vector.ofFn fun i : Fin 16 => BitVec.ofNat 8 (17 * i.val)) =
      #v[0x8E#8, 0xA2#8, 0xB7#8, 0xCA#8, 0x51#8, 0x67#8, 0x45#8, 0xBF#8, 0xEA#8, 0xFC#8, 0x49#8, 0x90#8, 0x4B#8,
        0x49#8, 0x60#8, 0x89#8] := by
  decide +kernel

/-- Settles O47: the steps by their cells, the round sequences as loops, the decryption of the vector from its encryption,
and the two bijections from the two inversions. -/
theorem cipherAndInvCipherAreInverse : Obligations.CipherAndInvCipherAreInverse := by
  refine ⟨fun s j => ?_, fun s r c => ⟨cell_shiftRows s r c, ?_⟩, fun s c => ⟨?_, ?_⟩, fun w s round r c => ?_,
    fun s => ⟨invShiftRows_shiftRows s, invMixColumns_mixColumns s, fun w round => addRoundKey_addRoundKey w round s⟩,
    fun w b st h0 hst => ?_, fun w b st h14 hst => ?_, ⟨cipher_fips197, ?_⟩, fun w => ?_⟩
  case refine_1 => simp [subBytes, invSubBytes]
  case refine_2 =>
    have hcol : (c - r).val = (c.val + 4 - r.val) % 4 := by omega
    exact (cell_invShiftRows s r c).trans (getElem_congr_idx (by rw [hcol]))
  case refine_3 =>
    have rows := mixWith_rows 0x02#8 0x03#8 0x01#8 0x01#8 s c
    simp only [one_gmul, two_gmul, three_gmul] at rows
    exact rows
  case refine_4 =>
    have rows := mixWith_rows 0x0E#8 0x0B#8 0x0D#8 0x09#8 s c
    simp only [nine_gmul, eleven_gmul, thirteen_gmul, fourteen_gmul] at rows
    exact rows
  case refine_5 =>
    refine (cell_addRoundKey w round s r c).trans ?_
    rw [schedWord_eq w (by omega), wordByte, cell]
  case refine_6 => rw [cipher_eq, ← h0, foldl_range'_eq hst]
  case refine_7 => rw [invCipher_eq, ← h14, foldl_reverse_range'_eq hst]
  case refine_8 => rw [← cipher_fips197, invCipher_cipher]
  case refine_9 =>
    have hleft : Function.LeftInverse (invCipher w) (cipher w) := invCipher_cipher w
    have hright : Function.LeftInverse (cipher w) (invCipher w) := cipher_invCipher w
    exact ⟨hleft, hright, ⟨hleft.injective, hright.surjective⟩, ⟨hright.injective, hleft.surjective⟩⟩

end Sys2Proof.Proofs
end

section
/-! PROOFS. The block cipher commands KEY_EXPAND (O36), ENC_BLOCK (O37) and DEC_BLOCK (O38): each is the completion of its
rule, whose branches are the checks in their order (41_block_commands.md R160 to R162). -/

namespace Sys2Proof.Proofs

open Sys2Proof.Machine Sys2Proof.Safety

/-! ### From a rule's answer to the command's next state -/

theorem exec_of_raises {i : Instr} {S : Snapshot} {s u : State} {e : CmdError} (h : InFlightIs i S s)
    (hrule : ruleOf i S s = .raises e u) : exec i s = .next (completedWith (errCodeOf e) (subCauseOf e) u) := by
  rw [exec_of_inFlightIs h, hrule]
  rfl

theorem exec_of_completes {i : Instr} {S : Snapshot} {s u : State} (h : InFlightIs i S s)
    (hrule : ruleOf i S s = .completes u) : exec i s = .next (completedOk u) := by
  rw [exec_of_inFlightIs h, hrule]
  rfl

/-! ### KEY_EXPAND -/

/-- Settles O36: each branch of the rule meets the hypotheses of one clause and contradicts those of the two others. -/
theorem keyExpandExecutes : Obligations.KeyExpandExecutes := by
  refine ⟨decodeOfEncodeIsIdentity .keyExpand rfl, fun S s hin => ?_⟩
  obtain ⟨hp, hrule⟩ | ⟨hp, hlen, hrule⟩ | ⟨hp, hlen, hrule⟩ := keyExpandRule_cases S s
  · exact ⟨fun _ => exec_of_raises hin hrule, by simp [hp], by simp [hp]⟩
  · exact ⟨by simp [hp], fun _ _ => exec_of_raises hin hrule, fun _ h => absurd h hlen⟩
  · exact ⟨by simp [hp], fun _ h => absurd hlen h, fun _ _ => exec_of_completes hin hrule⟩

/-! ### ENC_BLOCK and DEC_BLOCK -/

/-- R162 asks of DEC_BLOCK the checks of R161 in the same order: the two commands differ in their transform alone. -/
theorem exec_of_blockRule {i : Instr} {f : Schedule → Block → Block} (hi : ruleOf i = blockRule f) {S : Snapshot}
    {s : State} (hin : InFlightIs i S s) :
    (s.passActive = true → exec i s = .next (completedWith 9 0 s)) ∧
    (s.passActive = false → s.keyValid = false → exec i s = .next (completedWith 7 0 s)) ∧
    (s.passActive = false → s.keyValid = true →
      exec i s = .next (completedOk { s with dout := packBlock (f s.w S.din) })) := by
  have hcases := blockRule_cases f S s
  rw [← hi] at hcases
  obtain ⟨hp, hrule⟩ | ⟨hp, hkey, hrule⟩ | ⟨hp, hkey, hrule⟩ := hcases
  · exact ⟨fun _ => exec_of_raises hin hrule, by simp [hp], by simp [hp]⟩
  · exact ⟨by simp [hp], fun _ _ => exec_of_raises hin hrule, by simp [hkey]⟩
  · exact ⟨by simp [hp], by simp [hkey], fun _ _ => exec_of_completes hin hrule⟩

/-- Settles O37: its rule is the block rule with the cipher. -/
theorem encBlockExecutes : Obligations.EncBlockExecutes :=
  ⟨decodeOfEncodeIsIdentity .encBlock rfl, fun _ _ => exec_of_blockRule rfl⟩

/-- Settles O38: its rule is the block rule with the inverse cipher. -/
theorem decBlockExecutes : Obligations.DecBlockExecutes :=
  ⟨decodeOfEncodeIsIdentity .decBlock rfl, fun _ _ => exec_of_blockRule rfl⟩

end Sys2Proof.Proofs
end

section
/-! PROOFS. The IGE commands IGE_ENC_START (O39), IGE_DEC_START (O40), IGE_STEP (O41) and IGE_ABORT (O42): an equation per
branch of each rule, then the completion (42_ige_commands.md R180 to R187). -/

namespace Sys2Proof.Proofs

open Sys2Proof.Machine Sys2Proof.Safety

/-! ### IGE_ENC_START and IGE_DEC_START -/

section StartRule

variable (dir : Bool) {S : Snapshot} {s : State}

theorem igeStartRule_of_active (hp : s.passActive = true) : igeStartRule dir S s = .raises .passInProgress s :=
  if_pos hp

theorem igeStartRule_of_keyLen_ne (hp : s.passActive = false) (hk : S.keyLen ≠ 32) :
    igeStartRule dir S s = .raises .invalidKeyLength s := by
  rw [igeStartRule, if_neg (Bool.eq_false_iff.mp hp), if_pos hk]

theorem igeStartRule_of_ivLen_ne (hp : s.passActive = false) (hk : S.keyLen = 32) (hi : S.ivLen ≠ 32) :
    igeStartRule dir S s = .raises .invalidIvLength s := by
  rw [igeStartRule, if_neg (Bool.eq_false_iff.mp hp), if_neg (not_not.mpr hk), if_pos hi]

theorem igeStartRule_of_msgLen_mod_ne (hp : s.passActive = false) (hk : S.keyLen = 32) (hi : S.ivLen = 32)
    (hm : S.msgLen.toNat % 16 ≠ 0) : igeStartRule dir S s = .raises .notMultipleOf16 s := by
  rw [igeStartRule, if_neg (Bool.eq_false_iff.mp hp), if_neg (not_not.mpr hk), if_neg (not_not.mpr hi), if_pos hm]

/-- The length 0 is a multiple of 16, so it comes to its own check. -/
theorem igeStartRule_of_msgLen_eq_zero (hp : s.passActive = false) (hk : S.keyLen = 32) (hi : S.ivLen = 32)
    (hz : S.msgLen = 0) : igeStartRule dir S s = .raises .zeroLength s := by
  rw [igeStartRule, if_neg (Bool.eq_false_iff.mp hp), if_neg (not_not.mpr hk), if_neg (not_not.mpr hi),
    if_neg (by simp [hz]), if_pos hz]

theorem igeStartRule_of_valid (hp : s.passActive = false) (hk : S.keyLen = 32) (hi : S.ivLen = 32)
    (hm : S.msgLen.toNat % 16 = 0) (hz : S.msgLen ≠ 0) :
    igeStartRule dir S s = .completes
      { loadSchedule S.key s with
        chc := packBlock (ivFirstHalf S.iv)
        chp := packBlock (ivSecondHalf S.iv)
        blkRemain := BitVec.ofNat 32 (S.msgLen.toNat / 16)
        blkDone := 0
        passActive := true
        passDir := dir } := by
  rw [igeStartRule, if_neg (Bool.eq_false_iff.mp hp), if_neg (not_not.mpr hk), if_neg (not_not.mpr hi),
    if_neg (not_not.mpr hm), if_neg hz]

end StartRule

/-- R184 asks of IGE_DEC_START what R183 asks of IGE_ENC_START: the two differ in the direction alone. -/
theorem exec_of_igeStartRule {i : Instr} {dir : Bool} (hrule : ruleOf i = igeStartRule dir) {S : Snapshot} {s : State}
    (hin : InFlightIs i S s) :
    (s.passActive = true → exec i s = .next (completedWith 9 0 s)) ∧
    (s.passActive = false → S.keyLen ≠ 32 → exec i s = .next (completedWith 1 0 s)) ∧
    (s.passActive = false → S.keyLen = 32 → S.ivLen ≠ 32 → exec i s = .next (completedWith 2 0 s)) ∧
    (s.passActive = false → S.keyLen = 32 → S.ivLen = 32 → S.msgLen.toNat % 16 ≠ 0 →
      exec i s = .next (completedWith 3 1 s)) ∧
    (s.passActive = false → S.keyLen = 32 → S.ivLen = 32 → S.msgLen = 0 → exec i s = .next (completedWith 3 2 s)) ∧
    (s.passActive = false → S.keyLen = 32 → S.ivLen = 32 → S.msgLen.toNat % 16 = 0 → S.msgLen ≠ 0 →
      exec i s = .next (completedOk
        { s with
          w := keyExpansion S.key, keyValid := true
          chc := packBlock (Vector.ofFn fun j : Fin 16 => S.iv[j.val])
          chp := packBlock (Vector.ofFn fun j : Fin 16 => S.iv[16 + j.val])
          blkRemain := BitVec.ofNat 32 (S.msgLen.toNat / 16), blkDone := 0
          passActive := true, passDir := dir })) := by
  have raises {e : CmdError} (h : igeStartRule dir S s = .raises e s) :
      exec i s = .next (completedWith (errCodeOf e) (subCauseOf e) s) :=
    exec_of_raises hin (hrule ▸ h)
  have completes {u : State} (h : igeStartRule dir S s = .completes u) : exec i s = .next (completedOk u) :=
    exec_of_completes hin (hrule ▸ h)
  exact ⟨fun hp => raises (igeStartRule_of_active dir hp),
    fun hp hk => raises (igeStartRule_of_keyLen_ne dir hp hk),
    fun hp hk hi => raises (igeStartRule_of_ivLen_ne dir hp hk hi),
    fun hp hk hi hm => raises (igeStartRule_of_msgLen_mod_ne dir hp hk hi hm),
    fun hp hk hi hz => raises (igeStartRule_of_msgLen_eq_zero dir hp hk hi hz),
    fun hp hk hi hm hz => completes (igeStartRule_of_valid dir hp hk hi hm hz)⟩

/-- Settles O39: its rule is the start rule with PASS_DIR 0. -/
theorem igeEncStartExecutes : Obligations.IgeEncStartExecutes :=
  ⟨decodeOfEncodeIsIdentity .igeEncStart rfl, fun _ _ => exec_of_igeStartRule rfl⟩

/-- Settles O40: its rule is the start rule with PASS_DIR 1. -/
theorem igeDecStartExecutes : Obligations.IgeDecStartExecutes :=
  ⟨decodeOfEncodeIsIdentity .igeDecStart rfl, fun _ _ => exec_of_igeStartRule rfl⟩

/-! ### IGE_STEP -/

theorem igeTransform_of_encrypt {b : Block} {s : State} (hdir : s.passDir = false) :
    igeTransform b s =
      { s with
        chc := packBlock (igeEncryptBlock s.w (unpackBlock s.chc) (unpackBlock s.chp) b)
        chp := packBlock b
        dout := packBlock (igeEncryptBlock s.w (unpackBlock s.chc) (unpackBlock s.chp) b) } :=
  if_pos hdir

theorem igeTransform_of_decrypt {b : Block} {s : State} (hdir : s.passDir = true) :
    igeTransform b s =
      { s with
        chp := packBlock (igeDecryptBlock s.w (unpackBlock s.chc) (unpackBlock s.chp) b)
        chc := packBlock b
        dout := packBlock (igeDecryptBlock s.w (unpackBlock s.chc) (unpackBlock s.chp) b) } :=
  if_neg (by simp [hdir])

@[simp] theorem igeTransform_blkRemain (b : Block) (s : State) : (igeTransform b s).blkRemain = s.blkRemain := by
  obtain ⟨c, p, o, h⟩ := igeTransform_cases b s
  rw [h]

section StepRule

variable {S : Snapshot} {s : State}

theorem igeStepRule_of_inactive (hp : s.passActive = false) : igeStepRule S s = .raises .noActivePass s :=
  if_pos hp

/-- A block with more to come: the pass goes on. -/
theorem igeStepRule_of_more (hp : s.passActive = true) (hmore : s.blkRemain ≠ 1) :
    igeStepRule S s = .completes (countBlock (igeTransform S.din s)) := by
  have hcount : (countBlock (igeTransform S.din s)).blkRemain ≠ 0 := by
    rw [countBlock_blkRemain, igeTransform_blkRemain]
    exact sub_ne_zero.mpr hmore
  rw [igeStepRule, if_neg (by simp [hp]), endPassIfDone, if_neg hcount]

/-- The last block: BLK_REMAIN comes to 0 and the pass ends. -/
theorem igeStepRule_of_last (hp : s.passActive = true) (hlast : s.blkRemain = 1) :
    igeStepRule S s = .completes (endPass (countBlock (igeTransform S.din s))) := by
  have hcount : (countBlock (igeTransform S.din s)).blkRemain = 0 := by
    rw [countBlock_blkRemain, igeTransform_blkRemain, hlast, sub_self]
  rw [igeStepRule, if_neg (by simp [hp]), endPassIfDone, if_pos hcount]

end StepRule

/-- IGE_STEP inside a pass, where the transform of the latched block leaves `u`. -/
theorem exec_igeStep {S : Snapshot} {s u : State} (hin : InFlightIs .igeStep S s) (hp : s.passActive = true)
    (hu : igeTransform S.din s = u) :
    (s.blkRemain ≠ 1 → exec .igeStep s = .next (completedOk (countBlock u))) ∧
    (s.blkRemain = 1 → exec .igeStep s = .next (completedOk (endPass (countBlock u)))) := by
  subst hu
  exact ⟨fun hmore => exec_of_completes hin (igeStepRule_of_more hp hmore),
    fun hlast => exec_of_completes hin (igeStepRule_of_last hp hlast)⟩

/-- Settles O41: inside a pass, the transform is that of the pass's direction. -/
theorem igeStepExecutes : Obligations.IgeStepExecutes :=
  ⟨decodeOfEncodeIsIdentity .igeStep rfl, fun _ _ hin =>
    ⟨fun hp => exec_of_raises hin (igeStepRule_of_inactive hp),
      fun hp hdir => exec_igeStep hin hp (igeTransform_of_encrypt hdir),
      fun hp hdir => exec_igeStep hin hp (igeTransform_of_decrypt hdir)⟩⟩

/-! ### IGE_ABORT -/

/-- Settles O42: the rule completes in both cases, and inside a pass with EndPass. -/
theorem igeAbortExecutes : Obligations.IgeAbortExecutes := by
  refine ⟨decodeOfEncodeIsIdentity .igeAbort rfl, fun S s hin => ⟨fun hp => ?_, fun hp => ?_⟩⟩
  · exact exec_of_completes hin (by simp [ruleOf, igeAbortRule, hp])
  · exact exec_of_completes hin (u := endPass s) (by simp [ruleOf, igeAbortRule, hp])

end Sys2Proof.Proofs
end

section
/-! PROOFS. Whole IGE passes: the blocks of a pass are those of the chaining law (O43), and a decryption pass undoes an
encryption pass (O44) (42_ige_commands.md R188 to R190). -/

namespace Sys2Proof.Proofs

open Sys2Proof.Machine Sys2Proof.Safety

/-! ### The chaining law -/

/-- One block of a pass in direction `dir` (42_ige_commands.md R180, R181). -/
def igeBlock (dir : Bool) (w : Schedule) (prevCipher prevPlain b : Block) : Block :=
  if dir then igeDecryptBlock w prevCipher prevPlain b else igeEncryptBlock w prevCipher prevPlain b

/-- The blocks of a whole pass in direction `dir` (42_ige_commands.md R180, R181). -/
def igeBlocks (dir : Bool) (w : Schedule) (prevCipher prevPlain : Block) (blocks : List Block) : List Block :=
  if dir then igeDecrypt w prevCipher prevPlain blocks else igeEncrypt w prevCipher prevPlain blocks

@[simp] theorem igeBlocks_nil (dir : Bool) (w : Schedule) (c p : Block) : igeBlocks dir w c p [] = [] := by
  cases dir <;> rfl

/-- The law of either direction block by block: the next chaining state is the pair of the block fed and the one made. -/
theorem igeBlocks_cons (dir : Bool) (w : Schedule) (c p b : Block) (bs : List Block) :
    igeBlocks dir w c p (b :: bs) = igeBlock dir w c p b ::
      igeBlocks dir w (if dir then b else igeBlock dir w c p b) (if dir then igeBlock dir w c p b else b) bs := by
  cases dir <;> rfl

theorem blockXor_blockXor (a b : Block) : blockXor (blockXor a b) b = a := by
  ext j hj
  simp [blockXor]

/-- The outer xors cancel, the ciphers cancel, the inner xors cancel (42_ige_commands.md R190). -/
theorem igeDecryptBlock_igeEncryptBlock (w : Schedule) (c p b : Block) :
    igeDecryptBlock w c p (igeEncryptBlock w c p b) = b := by
  rw [igeDecryptBlock, igeEncryptBlock, blockXor_blockXor, invCipher_cipher, blockXor_blockXor]

/-- Decryption finds the plaintext block by block, so both passes have the same chaining state before each block. -/
theorem igeDecrypt_igeEncrypt (w : Schedule) (c p : Block) (blocks : List Block) :
    igeDecrypt w c p (igeEncrypt w c p blocks) = blocks := by
  induction blocks generalizing c p with
  | nil => rfl
  | cons b bs ih => rw [igeEncrypt, igeDecrypt, igeDecryptBlock_igeEncryptBlock, ih]

theorem igeEncrypt_length (w : Schedule) (c p : Block) (blocks : List Block) :
    (igeEncrypt w c p blocks).length = blocks.length := by
  induction blocks generalizing c p with
  | nil => rfl
  | cons b bs ih => rw [igeEncrypt, List.length_cons, List.length_cons, ih]

/-! ### What a pass leaves alone -/

/-- The operand registers a pass start reads are those of `s`. -/
structure SamePassOperands (s t : State) : Prop where
  key : t.key = s.key
  keyLen : t.keyLen = s.keyLen
  iv : t.iv = s.iv
  ivLen : t.ivLen = s.ivLen
  msgLen : t.msgLen = s.msgLen

theorem SamePassOperands.trans {s t u : State} (h : SamePassOperands s t) (h' : SamePassOperands t u) :
    SamePassOperands s u :=
  ⟨h'.key.trans h.key, h'.keyLen.trans h.keyLen, h'.iv.trans h.iv, h'.ivLen.trans h.ivLen, h'.msgLen.trans h.msgLen⟩

/-- What the blocks of a pass that was in state `s` keep: the engine idle and without error, the schedule and the
operands. -/
structure KeptByBlocks (s t : State) : Prop where
  busy : t.busy = false
  err : t.err = false
  w : t.w = s.w
  keyValid : t.keyValid = s.keyValid
  operands : SamePassOperands s t

theorem KeptByBlocks.trans {s t u : State} (h : KeptByBlocks s t) (h' : KeptByBlocks t u) : KeptByBlocks s u :=
  ⟨h'.busy, h'.err, h'.w.trans h.w, h'.keyValid.trans h.keyValid, h.operands.trans h'.operands⟩

theorem keptByBlocks_endPass {s t : State} (h : KeptByBlocks s t) : KeptByBlocks s (endPass t) := by
  obtain ⟨hbusy, herr, hw, hvalid, hkey, hkeyLen, hiv, hivLen, hmsgLen⟩ := h
  exact ⟨hbusy, herr, hw, hvalid, hkey, hkeyLen, hiv, hivLen, hmsgLen⟩

/-! ### One block -/

/-- A command word just accepted is in flight with the operands as they are (30_encoding.md R96). -/
theorem inFlightIs_acceptCommand {i : Instr} (hwf : i.wellFormed = true) (s : State) :
    InFlightIs i (snapshot s) (acceptCommand (encode i) s) :=
  ⟨rfl, by rw [acceptCommand_inflight, decodeOfEncodeIsIdentity i hwf]⟩

/-- The engine after block `b` of a pass, before the end of the pass is looked at. -/
def afterBlock (b : Block) (s : State) : State :=
  completedOk (countBlock (igeTransform b (acceptCommand (encode .igeStep) { s with din := packBlock b })))

theorem feedBlock_eq {b : Block} {s : State} (hp : s.passActive = true) :
    (s.blkRemain ≠ 1 → feedBlock b s = .next (afterBlock b s)) ∧
    (s.blkRemain = 1 → feedBlock b s = .next (endPass (afterBlock b s))) :=
  exec_igeStep (inFlightIs_acceptCommand rfl { s with din := packBlock b }) hp
    (congrArg (fun d => igeTransform d _) (unpackBlock_packBlock b))

/-- In `t` stands what block `b`, fed to the pass in `s`, makes: DOUT and the chaining state of the next block. Encrypting,
`b` is the plaintext and the block made the ciphertext; decrypting, the other way round. -/
def MakesBlock (b : Block) (s t : State) : Prop :=
  let o := igeBlock s.passDir s.w (unpackBlock s.chc) (unpackBlock s.chp) b
  unpackBlock t.dout = o ∧ unpackBlock t.chc = (if s.passDir then b else o) ∧
    unpackBlock t.chp = (if s.passDir then o else b)

theorem makesBlock_igeTransform (b : Block) (s : State) : MakesBlock b s (igeTransform b s) := by
  unfold MakesBlock
  cases hdir : s.passDir with
  | false =>
    rw [igeTransform_of_encrypt hdir]
    exact ⟨unpackBlock_packBlock _, unpackBlock_packBlock _, unpackBlock_packBlock _⟩
  | true =>
    rw [igeTransform_of_decrypt hdir]
    exact ⟨unpackBlock_packBlock _, unpackBlock_packBlock _, unpackBlock_packBlock _⟩

/-- Neither acceptance nor the completion touches DOUT or the chaining state. -/
theorem makesBlock_afterBlock (b : Block) (s : State) : MakesBlock b s (afterBlock b s) :=
  makesBlock_igeTransform b (acceptCommand (encode .igeStep) { s with din := packBlock b })

theorem afterBlock_cases (b : Block) (s : State) :
    ∃ c p o, afterBlock b s = completedOk (countBlock
      { acceptCommand (encode .igeStep) { s with din := packBlock b } with chc := c, chp := p, dout := o }) := by
  obtain ⟨c, p, o, h⟩ := igeTransform_cases b (acceptCommand (encode .igeStep) { s with din := packBlock b })
  exact ⟨c, p, o, by rw [afterBlock, h]⟩

/-- The pass after a block: as it was, with one block less to come. -/
theorem afterBlock_pass (b : Block) (s : State) :
    (afterBlock b s).passActive = s.passActive ∧ (afterBlock b s).passDir = s.passDir ∧
    (afterBlock b s).blkRemain = s.blkRemain - 1 := by
  obtain ⟨c, p, o, h⟩ := afterBlock_cases b s
  rw [h]
  exact ⟨rfl, rfl, rfl⟩

theorem keptByBlocks_afterBlock (b : Block) (s : State) : KeptByBlocks s (afterBlock b s) := by
  obtain ⟨c, p, o, h⟩ := afterBlock_cases b s
  rw [h]
  exact ⟨rfl, rfl, rfl, rfl, rfl, rfl, rfl, rfl, rfl⟩

/-! ### The blocks of a pass -/

theorem runPass_cons_of_feedBlock {b : Block} {s t : State} (h : feedBlock b s = .next t) (bs : List Block) :
    runPass (b :: bs) s = (runPass bs t).map fun r => (unpackBlock t.dout :: r.1, r.2) := by
  rw [runPass, h]

/-- By induction over the blocks: each but the last leaves a pass with one block less, whose chaining state is the law's
(42_ige_commands.md R188). -/
theorem runPass_of_pass {blocks : List Block} {s : State} (hp : s.passActive = true) (hne : blocks ≠ [])
    (hlen : s.blkRemain.toNat = blocks.length) :
    ∃ t, runPass blocks s = some (igeBlocks s.passDir s.w (unpackBlock s.chc) (unpackBlock s.chp) blocks, t) ∧
      t.passActive = false ∧ KeptByBlocks s t := by
  induction blocks generalizing s with
  | nil => exact absurd rfl hne
  | cons b bs ih =>
    obtain ⟨hfeedMore, hfeedLast⟩ := feedBlock_eq (b := b) hp
    obtain ⟨hdout, hchc, hchp⟩ := makesBlock_afterBlock b s
    have hkept := keptByBlocks_afterBlock b s
    rw [igeBlocks_cons]
    cases bs with
    | nil =>
      have hlast : s.blkRemain = 1 := BitVec.eq_of_toNat_eq hlen
      refine ⟨_, ?_, endPass_passActive _, keptByBlocks_endPass hkept⟩
      rw [runPass_cons_of_feedBlock (hfeedLast hlast), runPass, igeBlocks_nil, Option.map_some, endPass_dout, hdout]
    | cons b' bs =>
      have hremain : s.blkRemain.toNat = bs.length + 2 := hlen
      obtain ⟨hactive, hdir, hcount⟩ := afterBlock_pass b s
      have hnext : (afterBlock b s).blkRemain.toNat = bs.length + 1 := by
        rw [hcount]
        bv_omega
      obtain ⟨t, hrun, hend, hrest⟩ := ih (hactive.trans hp) (List.cons_ne_nil b' bs) hnext
      refine ⟨t, ?_, hend, hkept.trans hrest⟩
      rw [runPass_cons_of_feedBlock (hfeedMore (by bv_omega)), hrun, Option.map_some, hdout, hchc, hchp, hdir, hkept.w]

/-- Settles O43: the law's blocks are those of the pass's direction. -/
theorem passFollowsTheChainingLaw : Obligations.PassFollowsTheChainingLaw := by
  intro blocks s _ hp hne hlen
  obtain ⟨t, hrun, hend, hbusy, herr, hw, hvalid, hkey, hkeyLen, hiv, hivLen, hmsgLen⟩ := runPass_of_pass hp hne hlen
  exact ⟨t, hrun, hbusy, hend, herr, hw, hvalid, hkey, hkeyLen, hiv, hivLen, hmsgLen⟩

/-! ### A pass from its start command to its end -/

/-- The command that starts a pass of direction `dir`. -/
def startCommand : Bool → Instr
  | false => .igeEncStart
  | true => .igeDecStart

theorem startCommand_wellFormed (dir : Bool) : (startCommand dir).wellFormed = true := by
  cases dir <;> rfl

theorem ruleOf_startCommand (dir : Bool) : ruleOf (startCommand dir) = igeStartRule dir := by
  cases dir <;> rfl

/-- No pass is active, and the operand registers describe one over `k` blocks. -/
structure ReadyForPass (k : Nat) (s : State) : Prop where
  passActive : s.passActive = false
  keyLen : s.keyLen = 32
  ivLen : s.ivLen = 32
  msgLen : s.msgLen.toNat = 16 * k

/-- In `t` the pass of direction `dir` over `k` blocks has just started that the operand registers of `s` describe. -/
structure PassStarted (dir : Bool) (k : Nat) (s t : State) : Prop where
  passActive : t.passActive = true
  passDir : t.passDir = dir
  w : t.w = keyExpansion (unpackBytes32 s.key)
  chc : unpackBlock t.chc = ivFirstHalf (unpackBytes32 s.iv)
  chp : unpackBlock t.chp = ivSecondHalf (unpackBytes32 s.iv)
  blkRemain : t.blkRemain.toNat = k
  operands : SamePassOperands s t

theorem issue_startCommand (dir : Bool) {k : Nat} {s : State} (hk : k ≠ 0) (hs : ReadyForPass k s) :
    ∃ t, issue (startCommand dir) s = .next t ∧ PassStarted dir k s t := by
  obtain ⟨hp, hkeyLen, hivLen, hmsgLen⟩ := hs
  have hmod : s.msgLen.toNat % 16 = 0 := by omega
  have hne : s.msgLen ≠ 0 := by
    intro h
    have hzero : s.msgLen.toNat = 0 := congrArg BitVec.toNat h
    omega
  have hcount : (BitVec.ofNat 32 (s.msgLen.toNat / 16)).toNat = k := by
    have hlt := s.msgLen.isLt
    rw [BitVec.toNat_ofNat]
    omega
  obtain ⟨-, -, -, -, -, hstart⟩ := exec_of_igeStartRule (ruleOf_startCommand dir)
    (inFlightIs_acceptCommand (startCommand_wellFormed dir) s)
  exact ⟨_, hstart hp hkeyLen hivLen hmod hne, rfl, rfl, rfl, unpackBlock_packBlock _, unpackBlock_packBlock _, hcount,
    ⟨rfl, rfl, rfl, rfl, rfl⟩⟩

/-- A start command and its blocks: the law's blocks from the two halves of the IV, and the engine ready again for a pass
with the same operands (42_ige_commands.md R182, R188). -/
theorem startAndRunPass (dir : Bool) {blocks : List Block} {s : State} (hne : blocks ≠ [])
    (hs : ReadyForPass blocks.length s) :
    ∃ t u, issue (startCommand dir) s = .next t ∧
      runPass blocks t = some (igeBlocks dir (keyExpansion (unpackBytes32 s.key)) (ivFirstHalf (unpackBytes32 s.iv))
        (ivSecondHalf (unpackBytes32 s.iv)) blocks, u) ∧
      ReadyForPass blocks.length u ∧ SamePassOperands s u := by
  obtain ⟨t, hissue, hactive, hdir, hw, hchc, hchp, hlen, hoperands⟩ :=
    issue_startCommand dir (mt List.length_eq_zero_iff.mp hne) hs
  obtain ⟨u, hrun, hend, hkept⟩ := runPass_of_pass hactive hne hlen
  rw [hdir, hw, hchc, hchp] at hrun
  have hsame := hoperands.trans hkept.operands
  obtain ⟨-, hkeyLen, hivLen, hmsgLen⟩ := hs
  exact ⟨t, u, hissue, hrun,
    ⟨hend, hsame.keyLen.trans hkeyLen, hsame.ivLen.trans hivLen, hsame.msgLen ▸ hmsgLen⟩, hsame⟩

/-- Settles O44: both passes run under the same schedule from the same chaining state, where decryption undoes
encryption. -/
theorem igePassesRoundTrip : Obligations.IgePassesRoundTrip := by
  intro blocks s _ hp hkeyLen hivLen hne hmsgLen
  obtain ⟨startedEnc, u, hstartEnc, hrunEnc, hready, hsame⟩ :=
    startAndRunPass false hne ⟨hp, hkeyLen, hivLen, hmsgLen⟩
  have hlen := igeEncrypt_length (keyExpansion (unpackBytes32 s.key)) (ivFirstHalf (unpackBytes32 s.iv))
    (ivSecondHalf (unpackBytes32 s.iv)) blocks
  rw [← hlen] at hready
  obtain ⟨startedDec, v, hstartDec, hrunDec, hended, -⟩ :=
    startAndRunPass true (List.ne_nil_of_length_pos (hlen ▸ List.length_pos_iff.mpr hne)) hready
  rw [hsame.key, hsame.iv, igeBlocks, if_pos rfl, igeDecrypt_igeEncrypt] at hrunDec
  exact ⟨startedEnc, _, u, startedDec, v, hstartEnc, hrunEnc, hlen, hstartDec, hrunDec, hended.passActive⟩

end Sys2Proof.Proofs
end

section
/-! PROOFS. The arithmetic of the factorization engine (O49) and the direction of IsPrime that Fermat's theorem gives:
every prime passes (O50) (43_factorization.md R201, R203). -/

namespace Sys2Proof.Proofs

open Sys2Proof.Machine

/-! ### Modular arithmetic -/

/-- Square-and-multiply: the accumulator times the power of the base is kept, bit by bit of the exponent. -/
theorem powModLoop_eq {m bits e : Nat} (b : Nat) {acc : Nat} (hacc : acc % m = acc) (he : e < 2 ^ bits) :
    powModLoop m bits b e acc = acc * b ^ e % m := by
  induction bits generalizing b e acc with
  | zero =>
    obtain rfl : e = 0 := by omega
    rw [powModLoop, pow_zero, mul_one, hacc]
  | succ bits ih =>
    have hhalf : e / 2 < 2 ^ bits := by omega
    rw [powModLoop, mulMod]
    split
    · rename_i hodd
      have hpow : b ^ e = b * (b * b) ^ (e / 2) := by
        rw [← pow_two, ← pow_mul, ← pow_succ']
        congr 1
        omega
      rw [mulMod, ih _ (Nat.mod_mod _ _) hhalf, hpow, ← mul_assoc]
      exact (Nat.mod_modEq _ m).mul ((Nat.mod_modEq _ m).pow _)
    · rename_i heven
      have hpow : b ^ e = (b * b) ^ (e / 2) := by
        rw [← pow_two, ← pow_mul]
        congr 1
        omega
      rw [ih _ hacc hhalf, hpow]
      exact ((Nat.mod_modEq _ m).pow _).mul_left acc

theorem powMod_eq (b e m : Nat) : powMod b e m = b ^ e % m := by
  rw [powMod, powModLoop_eq _ (Nat.mod_mod _ _) Nat.lt_log2_self]
  calc 1 % m * (b % m) ^ e ≡ 1 * b ^ e [MOD m] := (Nat.mod_modEq 1 m).mul ((Nat.mod_modEq b m).pow e)
    _ = b ^ e := one_mul _

/-- Settles O49: PowMod by the invariant of its loop, the two others by their definitions. -/
theorem modularArithmeticIsExact : Obligations.ModularArithmeticIsExact :=
  ⟨powMod_eq, fun _ _ _ => rfl, fun _ _ _ => rfl⟩

/-! ### The first loop of IsPrime -/

/-- The loop goes on to the next test only where no base divides m. -/
theorem not_dvd_of_smallBaseTest_eq_none {m : Nat} {bases : List Nat} (h : smallBaseTest m bases = none) :
    ∀ b ∈ bases, ¬ b ∣ m := by
  induction bases with
  | nil => exact nofun
  | cons b bs ih =>
    rw [smallBaseTest] at h
    split_ifs at h with heq hmod
    exact List.forall_mem_cons.mpr ⟨fun hdvd => hmod (Nat.mod_eq_zero_of_dvd hdvd), ih h⟩

/-- A prime is divided by no base but itself, so the loop does not call it composite. -/
theorem smallBaseTest_ne_false_of_prime {m : Nat} (hm : m.Prime) {bases : List Nat} (hbases : 1 ∉ bases) :
    smallBaseTest m bases ≠ some false := by
  induction bases with
  | nil => exact nofun
  | cons b bs ih =>
    rw [List.mem_cons, not_or] at hbases
    obtain ⟨hb, hbs⟩ := hbases
    rw [smallBaseTest]
    split
    · exact nofun
    · rename_i hne
      have hmod : m % b ≠ 0 := fun h =>
        ((Nat.dvd_prime hm).mp (Nat.dvd_of_mod_eq_zero h)).elim (fun h1 => hb h1.symm) (fun hmb => hne hmb.symm)
      rw [if_neg hmod]
      exact ih hbs

/-- A number that some base divides and no base equals is called composite. -/
theorem smallBaseTest_eq_false_of_dvd {m b : Nat} {bases : List Nat} (hb : b ∈ bases) (hdvd : b ∣ m) (hm : m ∉ bases) :
    smallBaseTest m bases = some false := by
  induction bases with
  | nil => cases hb
  | cons a as ih =>
    rw [List.mem_cons, not_or] at hm
    obtain ⟨hma, hmas⟩ := hm
    rw [smallBaseTest, if_neg hma]
    split
    · rfl
    · rename_i hmod
      obtain rfl | hb := List.mem_cons.mp hb
      · exact absurd (Nat.mod_eq_zero_of_dvd hdvd) hmod
      · exact ih hb hmas

/-! ### The strong test -/

/-- Dividing twos out of d and counting them in s keeps d · 2^s. -/
theorem splitTwos_mul_pow (bound d s : Nat) : (splitTwos bound d s).1 * 2 ^ (splitTwos bound d s).2 = d * 2 ^ s := by
  induction bound generalizing d s with
  | zero => rfl
  | succ bound ih =>
    rw [splitTwos]
    split
    · rw [ih, pow_succ', ← mul_assoc, Nat.div_mul_cancel (by omega)]
    · rfl

/-- Modulo a prime, 1 has the square roots 1 and -1 alone. -/
theorem eq_one_or_eq_sub_one_of_sq {m x : Nat} (hm : m.Prime) (hx : x < m) (h : x * x % m = 1) : x = 1 ∨ x = m - 1 := by
  have hpos : 1 ≤ x := Nat.pos_of_ne_zero fun h0 => by simp [h0] at h
  have hdvd : m ∣ (x + 1) * (x - 1) := by
    have hsub : m ∣ x * x - x * x % m := Nat.dvd_sub_mod _
    rwa [h, ← mul_one 1, Nat.mul_self_sub_mul_self_eq] at hsub
  obtain h | h := hm.dvd_mul.mp hdvd
  · have hle := Nat.le_of_dvd x.succ_pos h
    omega
  · have hzero := Nat.eq_zero_of_dvd_of_lt h (by omega)
    omega

/-- Squaring k + 1 times comes to 1; modulo a prime it can only do so through -1 (43_factorization.md R203). -/
theorem squaresHitMinusOne_of_prime {m k x : Nat} (hm : m.Prime) (hx : x < m) (h : x ^ 2 ^ (k + 1) % m = 1)
    (hone : x ≠ 1) (hminus : x ≠ m - 1) : squaresHitMinusOne m k x = true := by
  have hsq : mulMod x x m ≠ 1 := fun hsq => (eq_one_or_eq_sub_one_of_sq hm hx hsq).elim hone hminus
  induction k generalizing x with
  | zero => exact absurd (by simpa [pow_two, mulMod] using h) hsq
  | succ k ih =>
    rw [squaresHitMinusOne]
    split
    · rfl
    · rename_i hhit
      have hlt : mulMod x x m < m := Nat.mod_lt _ hm.pos
      refine ih hlt ?_ hsq hhit fun hsq' => (eq_one_or_eq_sub_one_of_sq hm hlt hsq').elim hsq hhit
      rw [pow_succ' 2 (k + 1), pow_mul, pow_two] at h
      rw [mulMod, ← Nat.pow_mod, h]

/-- No base that a prime does not divide witnesses against it: b^(m - 1) is 1 by Fermat, and b^d comes to it in s
squarings. -/
theorem strongTest_of_prime {m d s b : Nat} (hm : m.Prime) (hd : d * 2 ^ s = m - 1) (hb : ¬ m ∣ b) :
    strongTest m d s b = true := by
  have hfermat : (b ^ d % m) ^ 2 ^ s % m = 1 := by
    have hcoprime : b.Coprime m := ((Nat.Prime.coprime_iff_not_dvd hm).mpr hb).symm
    have h := Nat.ModEq.pow_totient hcoprime
    rw [Nat.totient_prime hm, ← hd, pow_mul] at h
    rw [← Nat.pow_mod, h, Nat.mod_eq_of_lt hm.one_lt]
  have hlt : b ^ d % m < m := Nat.mod_lt _ hm.pos
  simp only [strongTest, powMod_eq, Bool.or_eq_true, beq_iff_eq]
  by_cases hone : b ^ d % m = 1
  · exact .inl (.inl hone)
  by_cases hminus : b ^ d % m = m - 1
  · exact .inl (.inr hminus)
  cases s with
  | zero => exact absurd (by simpa using hfermat) hone
  | succ s => exact .inr (squaresHitMinusOne_of_prime hm hlt hfermat hone hminus)

/-! ### IsPrime -/

theorem two_le_of_isPrimeWith {bases : List Nat} {m : Nat} (h : isPrimeWith bases m = true) : 2 ≤ m := by
  by_contra hlt
  simp [isPrimeWith, not_le.mp hlt] at h

/-- An answer of the first loop is IsPrime's answer. -/
theorem isPrimeWith_of_smallBaseTest {bases : List Nat} {m : Nat} {answer : Bool} (hm : 2 ≤ m)
    (h : smallBaseTest m bases = some answer) : isPrimeWith bases m = answer := by
  rw [isPrimeWith, if_neg (not_lt.mpr hm), h]

/-- Every prime passes, whatever primes the bases are: it is a base or passes the strong test for each. -/
theorem isPrimeWith_of_prime {bases : List Nat} (hbases : ∀ b ∈ bases, b.Prime) {m : Nat} (hm : m.Prime) :
    isPrimeWith bases m = true := by
  have hsmall := smallBaseTest_ne_false_of_prime hm fun h1 => Nat.not_prime_one (hbases 1 h1)
  cases htest : smallBaseTest m bases with
  | some answer =>
    rw [isPrimeWith_of_smallBaseTest hm.two_le htest]
    cases answer
    · exact absurd htest hsmall
    · rfl
  | none =>
    rw [isPrimeWith, if_neg (not_lt.mpr hm.two_le), htest]
    refine List.all_eq_true.mpr fun b hb => strongTest_of_prime hm ?_ fun hdvd => ?_
    · rw [splitTwos_mul_pow, pow_zero, mul_one]
    · obtain rfl := (Nat.prime_dvd_prime_iff_eq hm (hbases b hb)).mp hdvd
      exact not_dvd_of_smallBaseTest_eq_none htest m hb dvd_rfl

theorem prime_of_mem_mrBases : ∀ b ∈ tgcFactParams.mrBases, b.Prime := by decide

theorem isPrime_of_prime {m : Nat} (hm : m.Prime) : isPrime m = true := isPrimeWith_of_prime prime_of_mem_mrBases hm

/-- Settles O50: the bases of TGC-CORE are primes. -/
theorem isPrimeAcceptsEveryPrime : Obligations.IsPrimeAcceptsEveryPrime := fun _ => isPrime_of_prime

end Sys2Proof.Proofs
end

section
/-! PROOFS. The search for a factor: trial division (O51), the factor a rho attempt returns (O52) and the sequence of
the attempts with its work (O53) (43_factorization.md R206 to R214). -/

namespace Sys2Proof.Proofs

open Sys2Proof.Machine

/-! ### Trial division -/

theorem trialDivide_eq_none_iff {primes : List Nat} {n : Nat} :
    trialDivide primes n = none ↔ ∀ u ∈ primes, ¬ u ∣ n := by
  simp [trialDivide, Nat.dvd_iff_mod_eq_zero]

/-- In an ascending list the first divisor found is the least. -/
theorem trialDivide_eq_some_iff {primes : List Nat} (hsorted : primes.Pairwise (· < ·)) {n t : Nat} :
    trialDivide primes n = some t ↔ t ∈ primes ∧ t ∣ n ∧ ∀ u ∈ primes, u ∣ n → t ≤ u := by
  induction primes with
  | nil => simp [trialDivide]
  | cons a as ih =>
    obtain ⟨hfirst, hrest⟩ := List.pairwise_cons.mp hsorted
    by_cases ha : a ∣ n
    · have hfound : trialDivide (a :: as) n = some a :=
        List.find?_cons_of_pos (beq_iff_eq.mpr (Nat.mod_eq_zero_of_dvd ha))
      rw [hfound, Option.some_inj]
      constructor
      · rintro rfl
        exact ⟨List.mem_cons_self, ha, List.forall_mem_cons.mpr ⟨fun _ => le_rfl, fun u hu _ => (hfirst u hu).le⟩⟩
      · rintro ⟨hmem, -, hleast⟩
        obtain rfl | hmem := List.mem_cons.mp hmem
        · rfl
        · exact absurd (hleast a List.mem_cons_self ha) (not_le.mpr (hfirst t hmem))
    · have hskip : trialDivide (a :: as) n = trialDivide as n :=
        List.find?_cons_of_neg fun hmod => ha (Nat.dvd_of_mod_eq_zero (beq_iff_eq.mp hmod))
      rw [hskip, ih hrest]
      constructor
      · rintro ⟨hmem, ht, hleast⟩
        exact ⟨List.mem_cons_of_mem a hmem, ht, List.forall_mem_cons.mpr ⟨fun h => absurd h ha, hleast⟩⟩
      · rintro ⟨hmem, ht, hleast⟩
        obtain rfl | hmem := List.mem_cons.mp hmem
        · exact absurd ht ha
        · exact ⟨hmem, ht, fun u hu => hleast u (List.mem_cons_of_mem a hu)⟩

theorem trialPrimes_sorted : tgcFactParams.trialPrimes.Pairwise (· < ·) := by decide

theorem mem_trialPrimes_iff (t : Nat) : t ∈ tgcFactParams.trialPrimes ↔ t.Prime ∧ 3 ≤ t ∧ t ≤ 251 := by
  constructor
  · exact (by decide +kernel : ∀ t ∈ tgcFactParams.trialPrimes, t.Prime ∧ 3 ≤ t ∧ t ≤ 251) t
  · rintro ⟨hprime, hmin, hmax⟩
    exact (by decide +kernel : ∀ t < 252, t.Prime → 3 ≤ t → t ∈ tgcFactParams.trialPrimes) t (by omega) hprime hmin

theorem findFactor_of_trialDivide {P : Config.FactParams} {n t : Nat} (h : trialDivide P.trialPrimes n = some t) :
    findFactor P n = { factor := some t, steps := 0, clast := 0 } := by
  rw [findFactor, h]

theorem findFactor_of_trialDivide_none {P : Config.FactParams} {n : Nat} (h : trialDivide P.trialPrimes n = none) :
    findFactor P n = rhoSearch P n P.attempts 0 0 := by
  rw [findFactor, h]

/-- Settles O51: the list is the ascending list of the primes 3 to 251, and the search stops at its first divisor. -/
theorem trialDivisionFindsTheLeastPrime : Obligations.TrialDivisionFindsTheLeastPrime :=
  ⟨mem_trialPrimes_iff, rfl, trialPrimes_sorted, fun _ _ => trialDivide_eq_some_iff trialPrimes_sorted,
    fun _ => trialDivide_eq_none_iff, fun _ _ => findFactor_of_trialDivide⟩

/-! ### The gcd of an attempt divides n

It is 1 at first and a gcd with n ever after. -/

@[simp] theorem advanceHare_g (n c r : Nat) (v : RhoState) : (advanceHare n c r v).g = v.g := by
  induction r generalizing v with
  | zero => rfl
  | succ r ih => exact ih _

theorem runBatch_g_dvd (n c len : Nat) (v : RhoState) : (runBatch n c len v).g ∣ n := Nat.gcd_dvd_right _ _

theorem batchLoop_g_dvd {n : Nat} (batch c r bound k : Nat) {v : RhoState} (h : v.g ∣ n) :
    (batchLoop batch n c r bound k v).g ∣ n := by
  induction bound generalizing k v with
  | zero => exact h
  | succ bound ih =>
    rw [batchLoop]
    split
    · exact ih _ (runBatch_g_dvd _ _ _ _)
    · exact h

theorem rhoBlock_g_dvd {n : Nat} (batch c r : Nat) {v : RhoState} (h : v.g ∣ n) : (rhoBlock batch n c r v).g ∣ n :=
  batchLoop_g_dvd _ _ _ _ _ (by rwa [advanceHare_g])

theorem rhoLoop_g_dvd {n : Nat} (batch limit c blocks r : Nat) {v : RhoState} (h : v.g ∣ n) :
    (rhoLoop batch limit n c blocks r v).2.g ∣ n := by
  induction blocks generalizing r v with
  | zero => exact h
  | succ blocks ih =>
    have hblock := rhoBlock_g_dvd batch c r h
    simp only [rhoLoop]
    split
    · exact hblock
    · split
      · exact hblock
      · exact ih _ hblock

theorem backtrack_g_dvd {n : Nat} (c k : Nat) {v : RhoState} (h : v.g ∣ n) : (backtrack n c k v).g ∣ n := by
  induction k generalizing v with
  | zero => exact h
  | succ k ih =>
    simp only [backtrack]
    split
    · exact Nat.gcd_dvd_right _ _
    · exact ih (Nat.gcd_dvd_right _ _)

/-- An attempt's factor is its last gcd, which it returns only where that is neither 1 nor n. -/
theorem brentAttempt_factor {P : Config.FactParams} {n c d : Nat} (h : (brentAttempt P n c).factor = some d) :
    d ∣ n ∧ d ≠ 1 ∧ d ≠ n := by
  simp only [brentAttempt] at h
  have hloop := rhoLoop_g_dvd (n := n) P.rhoBatch P.rhoRLimit c (blockCount P.rhoRLimit) 1
    (v := { x := P.rhoX0, y := P.rhoX0, ys := P.rhoX0, q := 1, g := 1, steps := 0 }) (one_dvd n)
  generalize rhoLoop P.rhoBatch P.rhoRLimit n c (blockCount P.rhoRLimit) 1 _ = out at h hloop
  have hback : (if out.2.g = n then backtrack n c P.rhoBatch out.2 else out.2).g ∣ n := by
    split
    · exact backtrack_g_dvd c P.rhoBatch hloop
    · exact hloop
  generalize (if out.2.g = n then backtrack n c P.rhoBatch out.2 else out.2) = v at h hback
  split_ifs at h with hspent hnone
  obtain rfl : v.g = d := Option.some.inj h
  obtain ⟨hn, hone⟩ := not_or.mp hnone
  exact ⟨hback, hone, hn⟩

/-- Settles O52: a divisor of a positive n other than 1 and n lies strictly between them. -/
theorem rhoFactorIsProper : Obligations.RhoFactorIsProper := by
  intro P n c d hn h
  obtain ⟨hdvd, hone, hne⟩ := brentAttempt_factor h
  have hpos := Nat.pos_of_dvd_of_pos hdvd hn
  exact ⟨by omega, lt_of_le_of_ne (Nat.le_of_dvd hn hdvd) hne, hdvd⟩

/-! ### The sequence of the attempts -/

/-- The evaluations of the `count` attempts from offset `first` on. -/
def attemptsWork (P : Config.FactParams) (n first count : Nat) : Nat :=
  ((List.range' first count).map fun c => (brentAttempt P n c).steps).sum

theorem attemptsWork_succ (P : Config.FactParams) (n first count : Nat) :
    attemptsWork P n first (count + 1) = (brentAttempt P n first).steps + attemptsWork P n (first + 1) count := rfl

theorem attemptsWork_concat (P : Config.FactParams) (n first count : Nat) :
    attemptsWork P n first (count + 1) = attemptsWork P n first count + (brentAttempt P n (first + count)).steps := by
  simp [attemptsWork, List.range'_1_concat]

theorem rhoSearch_of_attempt_none {P : Config.FactParams} {n clast : Nat}
    (h : (brentAttempt P n (clast + 1)).factor = none) (left steps : Nat) :
    rhoSearch P n (left + 1) steps clast =
      rhoSearch P n left (steps + (brentAttempt P n (clast + 1)).steps) (clast + 1) := by
  simp only [rhoSearch, h]

theorem rhoSearch_of_attempt_some {P : Config.FactParams} {n clast d : Nat}
    (h : (brentAttempt P n (clast + 1)).factor = some d) (left steps : Nat) :
    rhoSearch P n (left + 1) steps clast =
      { factor := some d, steps := steps + (brentAttempt P n (clast + 1)).steps, clast := clast + 1 } := by
  simp only [rhoSearch, h]

/-- `count` attempts without a factor add their work and go on to the next offset. -/
theorem rhoSearch_of_attempts_none {P : Config.FactParams} {n count clast : Nat}
    (h : ∀ c, clast < c → c ≤ clast + count → (brentAttempt P n c).factor = none) (left steps : Nat) :
    rhoSearch P n (count + left) steps clast =
      rhoSearch P n left (steps + attemptsWork P n (clast + 1) count) (clast + count) := by
  induction count generalizing steps clast with
  | zero => rw [zero_add]; rfl
  | succ count ih =>
    rw [Nat.add_right_comm, rhoSearch_of_attempt_none (h _ (by omega) (by omega)),
      ih (fun c hlow hhigh => h c (by omega) (by omega)), attemptsWork_succ, ← add_assoc,
      Nat.add_right_comm clast 1 count, ← Nat.add_assoc clast count 1]

/-- The first attempt that gives a factor ends the search (43_factorization.md R209). -/
theorem findFactor_of_first_attempt {P : Config.FactParams} {n c d : Nat} (htrial : trialDivide P.trialPrimes n = none)
    (hmin : 1 ≤ c) (hmax : c ≤ P.attempts) (hbefore : ∀ k, 1 ≤ k → k < c → (brentAttempt P n k).factor = none)
    (hfound : (brentAttempt P n c).factor = some d) :
    findFactor P n = { factor := some d, steps := attemptsWork P n 1 c, clast := c } := by
  obtain ⟨j, rfl⟩ : ∃ j, c = j + 1 := ⟨c - 1, by omega⟩
  obtain ⟨left, hleft⟩ : ∃ left, P.attempts = j + (left + 1) := ⟨P.attempts - (j + 1), by omega⟩
  rw [findFactor_of_trialDivide_none htrial, hleft,
    rhoSearch_of_attempts_none (fun c hlow hhigh => hbefore c hlow (by omega)), zero_add, Nat.zero_add j,
    rhoSearch_of_attempt_some hfound, attemptsWork_concat, add_comm 1 j]

/-- Without a factor all attempts are made (43_factorization.md R209). -/
theorem findFactor_of_no_attempt {P : Config.FactParams} {n : Nat} (htrial : trialDivide P.trialPrimes n = none)
    (hnone : ∀ c, 1 ≤ c → c ≤ P.attempts → (brentAttempt P n c).factor = none) :
    findFactor P n = { factor := none, steps := attemptsWork P n 1 P.attempts, clast := P.attempts } := by
  have h := rhoSearch_of_attempts_none (count := P.attempts) (clast := 0)
    (fun c hlow hhigh => hnone c hlow (by omega)) 0 0
  rwa [add_zero, zero_add, zero_add, zero_add, ← findFactor_of_trialDivide_none htrial] at h

/-! ### Any factor found divides n -/

theorem trialDivide_dvd {primes : List Nat} {n t : Nat} (h : trialDivide primes n = some t) : t ∣ n :=
  Nat.dvd_of_mod_eq_zero (beq_iff_eq.mp (List.find?_some h :))

theorem rhoSearch_factor_dvd {P : Config.FactParams} {n left steps clast d : Nat}
    (h : (rhoSearch P n left steps clast).factor = some d) : d ∣ n := by
  induction left generalizing steps clast with
  | zero => cases h
  | succ left ih =>
    cases hattempt : (brentAttempt P n (clast + 1)).factor with
    | none =>
      rw [rhoSearch_of_attempt_none hattempt] at h
      exact ih h
    | some g =>
      rw [rhoSearch_of_attempt_some hattempt] at h
      obtain rfl : g = d := Option.some.inj h
      exact (brentAttempt_factor hattempt).1

theorem findFactor_dvd {P : Config.FactParams} {n d : Nat} (h : (findFactor P n).factor = some d) : d ∣ n := by
  cases htrial : trialDivide P.trialPrimes n with
  | some t =>
    rw [findFactor_of_trialDivide htrial] at h
    obtain rfl : t = d := Option.some.inj h
    exact trialDivide_dvd htrial
  | none =>
    rw [findFactor_of_trialDivide_none htrial] at h
    exact rhoSearch_factor_dvd h

/-! ### The work of the search -/

/-- Settles O53: the search up to its first success, the budgets, and the three test vectors by evaluation. -/
theorem rhoWorkIsBounded : Obligations.RhoWorkIsBounded := by
  refine ⟨fun P n htrial => ⟨fun c d hmin hmax hbefore hfound => ?_, fun hnone => ?_⟩, fun n c => ?_,
    fun n => ⟨factorize_steps_le n, factorize_clast_le n⟩, ?_, ?_, ?_⟩
  · exact findFactor_of_first_attempt htrial hmin hmax hbefore hfound
  · exact findFactor_of_no_attempt htrial hnone
  · exact attemptBudget_tgc ▸ brentAttempt_steps_le tgcFactParams n c
  all_goals decide +kernel

end Sys2Proof.Proofs
end

section
/-! PROOFS. The command FACTORIZE (O48), the pair it publishes (O54) and the inputs trial division settles (O55)
(43_factorization.md R204, R205, R211, R212, R215, R216). -/

namespace Sys2Proof.Proofs

open Sys2Proof.Machine Sys2Proof.Safety

/-! ### The checks and their order -/

section Checks

variable {P : Config.FactParams} {n d p q : Nat}

theorem preCheck_of_le_three (h : n ≤ 3) : preCheck P n = some .tooSmall := if_pos h

theorem preCheck_of_even (hn : 3 < n) (h : n % 2 = 0) : preCheck P n = some .even := by
  rw [preCheck, if_neg (not_le.mpr hn), if_pos h]

theorem preCheck_of_isPrime (hn : 3 < n) (hodd : n % 2 = 1) (h : isPrimeWith P.mrBases n = true) :
    preCheck P n = some .prime := by
  rw [preCheck, if_neg (not_le.mpr hn), if_neg (by omega), if_pos h]

theorem preCheck_eq_none_iff :
    preCheck P n = none ↔ 3 < n ∧ n % 2 = 1 ∧ isPrimeWith P.mrBases n = false := by
  unfold preCheck
  split_ifs with hsmall heven hprime
  · exact ⟨nofun, fun ⟨hn, _⟩ => absurd hn (not_lt.mpr hsmall)⟩
  · exact ⟨nofun, fun ⟨_, hodd, _⟩ => by omega⟩
  · exact ⟨nofun, fun ⟨_, _, h⟩ => by simp [hprime] at h⟩
  · exact ⟨fun _ => ⟨not_le.mp hsmall, by omega, Bool.eq_false_iff.mpr hprime⟩, fun _ => rfl⟩

theorem postCheck_of_not_isPrime (hp : min d (n / d) = p) (hq : max d (n / d) = q)
    (h : ¬(isPrimeWith P.mrBases p = true ∧ isPrimeWith P.mrBases q = true)) :
    postCheck P n d = .failed .notSemiprime := by
  subst hp hq
  exact if_pos h

theorem postCheck_of_isPrime (hp : min d (n / d) = p) (hq : max d (n / d) = q)
    (hpp : isPrimeWith P.mrBases p = true) (hqp : isPrimeWith P.mrBases q = true) :
    postCheck P n d =
      if p = q then .failed .square else if q ≥ 2 ^ 32 then .failed .factorTooLarge else .factors p q := by
  subst hp hq
  exact if_neg (not_not.mpr ⟨hpp, hqp⟩)

theorem factorizeWith_of_preCheck {e : CmdError} (h : preCheck P n = some e) :
    factorizeWith P n = { outcome := .failed e, steps := 0, clast := 0 } := by
  rw [factorizeWith, h]

theorem factorizeWith_of_exhausted (h : preCheck P n = none) (hfind : (findFactor P n).factor = none) :
    factorizeWith P n =
      { outcome := .failed .factorizationExhausted
        steps := (findFactor P n).steps
        clast := (findFactor P n).clast } := by
  rw [factorizeWith, h]
  simp only [hfind]

theorem factorizeWith_of_factor (h : preCheck P n = none) (hfind : (findFactor P n).factor = some d) :
    factorizeWith P n =
      { outcome := postCheck P n d, steps := (findFactor P n).steps, clast := (findFactor P n).clast } := by
  rw [factorizeWith, h]
  simp only [hfind]

/-- A pair is published only after the pre-checks, for a factor found that passes the post-checks. -/
theorem exists_factor_of_factors (h : (factorizeWith P n).outcome = .factors p q) :
    preCheck P n = none ∧ ∃ d, (findFactor P n).factor = some d ∧ postCheck P n d = .factors p q := by
  cases hpre : preCheck P n with
  | some e => simp [factorizeWith_of_preCheck hpre] at h
  | none =>
    cases hfind : (findFactor P n).factor with
    | none => simp [factorizeWith_of_exhausted hpre hfind] at h
    | some d =>
      rw [factorizeWith_of_factor hpre hfind] at h
      exact ⟨rfl, d, rfl, h⟩

end Checks

/-! ### The command -/

section Command

variable {P : Config.FactParams} {S : Snapshot} {s : State} {steps clast : Nat}

theorem runCommand_factorizeRule (hin : InFlightIs .factorize S s) {r : FactResult}
    (h : factorizeWith P S.n.toNat = r) :
    runCommand (factorizeRule P) s = .next (finish (publishFactors r s)) := by
  obtain ⟨hb, hf⟩ := hin
  rw [runCommand_of_inflight hb hf, factorizeRule, h]

theorem runCommand_of_failed (hin : InFlightIs .factorize S s) {e : CmdError}
    (h : factorizeWith P S.n.toNat = { outcome := .failed e, steps := steps, clast := clast }) :
    runCommand (factorizeRule P) s = .next (completedWith (errCodeOf e) (subCauseOf e)
      { s with factP := 0, factQ := 0, factSteps := saturate32 steps, factC := BitVec.ofNat 32 clast }) :=
  runCommand_factorizeRule hin h

theorem runCommand_of_factors (hin : InFlightIs .factorize S s) {p q : Nat}
    (h : factorizeWith P S.n.toNat = { outcome := .factors p q, steps := steps, clast := clast }) :
    runCommand (factorizeRule P) s = .next (completedOk
      { s with factP := BitVec.ofNat 32 p, factQ := BitVec.ofNat 32 q, factSteps := saturate32 steps,
               factC := BitVec.ofNat 32 clast }) :=
  runCommand_factorizeRule hin h

end Command

/-- Settles O48: each clause is one way the checks and the search end. -/
theorem factorizeExecutes : Obligations.FactorizeExecutes := by
  refine ⟨decodeOfEncodeIsIdentity .factorize rfl, fun s => exec_eq_runCommand .factorize s, ?_, ?_⟩
  · rintro P S s n r hin rfl rfl hn hodd hprime hnone
    exact runCommand_of_failed hin (factorizeWith_of_exhausted (preCheck_eq_none_iff.mpr ⟨hn, hodd, hprime⟩) hnone)
  · rintro S s n r hin rfl rfl
    have fails {e : CmdError} (h : preCheck tgcFactParams S.n.toNat = some e) :=
      runCommand_of_failed hin (factorizeWith_of_preCheck h)
    refine ⟨fun hn => fails (preCheck_of_le_three hn), fun hn heven => fails (preCheck_of_even hn heven),
      fun hn hodd hprime => fails (preCheck_of_isPrime hn hodd hprime), fun d hn hodd hprime hfind => ?_⟩
    have hfact := factorizeWith_of_factor (preCheck_eq_none_iff.mpr ⟨hn, hodd, hprime⟩) hfind
    refine ⟨fun hnot => ?_, fun hp hq heq => ?_, fun hp hq hne hlarge => ?_, fun hp hq hne hsmall => ?_⟩
    · exact runCommand_of_failed hin (postCheck_of_not_isPrime rfl rfl hnot ▸ hfact)
    · rw [postCheck_of_isPrime rfl rfl hp hq, if_pos heq] at hfact
      exact runCommand_of_failed hin hfact
    · rw [postCheck_of_isPrime rfl rfl hp hq, if_neg hne, if_pos hlarge] at hfact
      exact runCommand_of_failed hin hfact
    · rw [postCheck_of_isPrime rfl rfl hp hq, if_neg hne, if_neg (not_le.mpr hsmall)] at hfact
      exact runCommand_of_factors hin hfact

/-! ### A published pair is a factorization -/

/-- The pair the post-checks let through is the factor and its cofactor, the smaller first. -/
theorem postCheck_factors_eq {P : Config.FactParams} {n d p q : Nat} (h : postCheck P n d = .factors p q) :
    p = min d (n / d) ∧ q = max d (n / d) := by
  simp only [postCheck] at h
  split_ifs at h
  injection h with hp hq
  exact ⟨hp.symm, hq.symm⟩

theorem mul_eq_of_factors {P : Config.FactParams} {n p q : Nat} (h : (factorizeWith P n).outcome = .factors p q) :
    p * q = n := by
  obtain ⟨-, d, hfind, hpost⟩ := exists_factor_of_factors h
  obtain ⟨rfl, rfl⟩ := postCheck_factors_eq hpost
  rw [min_mul_max, Nat.mul_div_cancel' (findFactor_dvd hfind)]

/-- Settles O54: the factor found divides n, and the post-checks see to the rest. -/
theorem successfulFactorizationIsCorrect : Obligations.SuccessfulFactorizationIsCorrect := by
  intro n p q h
  obtain ⟨hlt, hmax, hp, hq⟩ := factorizeWith_factors h
  exact ⟨mul_eq_of_factors h, two_le_of_isPrimeWith hp, hlt, hmax, hp, hq⟩

/-! ### Inputs with a small factor -/

/-- Of the primes of the list, only p and q divide p · q. -/
theorem trialDivide_mul_of_primes {p q : Nat} (hp : p.Prime) (hq : q.Prime) (hmin : 3 ≤ p) (hmax : p ≤ 251)
    (hlt : p < q) :
    trialDivide tgcFactParams.trialPrimes (p * q) = some p := by
  refine (trialDivide_eq_some_iff trialPrimes_sorted).mpr ⟨(mem_trialPrimes_iff p).mpr ⟨hp, hmin, hmax⟩,
    dvd_mul_right p q, fun u hu hdvd => ?_⟩
  obtain ⟨huprime, -, -⟩ := (mem_trialPrimes_iff u).mp hu
  obtain h | h := huprime.dvd_mul.mp hdvd
  · exact ((Nat.prime_dvd_prime_iff_eq huprime hp).mp h).ge
  · exact hlt.le.trans ((Nat.prime_dvd_prime_iff_eq huprime hq).mp h).ge

theorem mem_mrBases_of_prime {p : Nat} (hp : p.Prime) (hmax : p ≤ 37) : p ∈ tgcFactParams.mrBases :=
  (by decide +kernel : ∀ p < 38, p.Prime → p ∈ tgcFactParams.mrBases) p (by omega) hp

/-- The first loop of IsPrime finds the base p, or a smaller one, in p · q. -/
theorem isPrime_mul_of_primes {p q : Nat} (hp : p.Prime) (hq : q.Prime) (hmax : p ≤ 37) : isPrime (p * q) = false := by
  have hcomposite : p * q ∉ tgcFactParams.mrBases := fun h =>
    Nat.not_prime_mul hp.ne_one hq.ne_one (prime_of_mem_mrBases _ h)
  exact isPrimeWith_of_smallBaseTest (hp.two_le.trans (Nat.le_mul_of_pos_right p hq.pos))
    (smallBaseTest_eq_false_of_dvd (mem_mrBases_of_prime hp hmax) (dvd_mul_right p q) hcomposite)

theorem postCheck_mul_of_primes {p q : Nat} (hp : p.Prime) (hq : q.Prime) (hlt : p < q) (hq32 : q < 2 ^ 32) :
    postCheck tgcFactParams (p * q) p = .factors p q := by
  have hdiv : p * q / p = q := Nat.mul_div_cancel_left q hp.pos
  rw [postCheck_of_isPrime (by rw [hdiv, min_eq_left hlt.le]) (by rw [hdiv, max_eq_right hlt.le]) (isPrime_of_prime hp)
    (isPrime_of_prime hq), if_neg hlt.ne, if_neg (not_le.mpr hq32)]

/-- Settles O55: the pre-checks pass, trial division finds p, and the post-checks pass. -/
theorem smallSemiprimesFactor : Obligations.SmallSemiprimesFactor := by
  intro p q hp hq hmin hmax hlt hq32
  have hlarge : 3 < p * q := (hmin.trans_lt hlt).trans_le (Nat.le_mul_of_pos_left q hp.pos)
  have hodd : p * q % 2 = 1 :=
    Nat.odd_iff.mp ((hp.odd_of_ne_two (by omega)).mul (hq.odd_of_ne_two (by omega)))
  have hfind := findFactor_of_trialDivide (trialDivide_mul_of_primes hp hq hmin (hmax.trans (by decide)) hlt)
  rw [factorizeWith_of_factor (d := p) (preCheck_eq_none_iff.mpr ⟨hlarge, hodd, isPrime_mul_of_primes hp hq hmax⟩)
    (by rw [hfind]), hfind, postCheck_mul_of_primes hp hq hlt hq32]

end Sys2Proof.Proofs
end

section
/-! PROOFS. The control commands NOP (O34) and ZEROIZE (O35), and the illegal command words (O5): the rows the decoder gives
them, and the error of each row (44_control_commands.md R240 to R242, 30_encoding.md R93). -/

namespace Sys2Proof.Proofs

open Sys2Proof.Machine Sys2Proof.Safety

/-! ### The illegal rows -/

/-- `mk` is the instruction of the illegal row `r`: well formed on the words the row selects, with the shared rule. -/
def IsIllegalRow (mk : Word → Instr) (r : OpcodeRow) : Prop :=
  ∀ w, (mk w).wellFormed = r.matchesWord w ∧ ruleOf (mk w) = illegalRule w

theorem unknownOpcodeCtors_rows : List.Forall₂ IsIllegalRow unknownOpcodeCtors unknownOpcodeRows := by
  iterate 6 refine .cons (fun _ => ⟨rfl, rfl⟩) ?_
  exact .nil

theorem reservedBitsCtors_rows : List.Forall₂ IsIllegalRow reservedBitsCtors reservedBitsRows := by
  iterate 24 refine .cons (fun _ => ⟨rfl, rfl⟩) ?_
  exact .nil

theorem exists_mem_of_forall₂ {α β : Type} {R : α → β → Prop} {l : List α} {l' : List β} (h : List.Forall₂ R l l')
    {a : α} (ha : a ∈ l) : ∃ b ∈ l', R a b := by
  obtain ⟨n, hn, rfl⟩ := List.mem_iff_getElem.mp ha
  exact ⟨_, List.getElem_mem _, h.get hn (h.length_eq ▸ hn)⟩

/-- The unknown opcodes are those from 0x0A, with RSVD = 0 (30_encoding.md R93). -/
theorem unknownOpcode_word {mk : Word → Instr} (hmk : mk ∈ unknownOpcodeCtors) {w : Word}
    (hwf : (mk w).wellFormed = true) :
    rsvdField w = 0 ∧ 0x0A ≤ (opcodeField w).toNat ∧ ruleOf (mk w) = illegalRule w := by
  obtain ⟨r, hr, hrow⟩ := exists_mem_of_forall₂ unknownOpcodeCtors_rows hmk
  obtain ⟨hmatch, hrule⟩ := hrow w
  obtain ⟨hrsvd, hopcode⟩ := (unknownOpcodeRows_any_iff w).mp (List.any_eq_true.mpr ⟨r, hr, hmatch ▸ hwf⟩)
  exact ⟨hrsvd, hopcode, hrule⟩

/-- The rows of reserved bits set a bit of RSVD: the lowest they name is bit 8 (30_encoding.md R90, R93). -/
theorem reservedBits_word {mk : Word → Instr} (hmk : mk ∈ reservedBitsCtors) {w : Word}
    (hwf : (mk w).wellFormed = true) : rsvdField w ≠ 0 ∧ ruleOf (mk w) = illegalRule w := by
  obtain ⟨r, hr, hrow⟩ := exists_mem_of_forall₂ reservedBitsCtors_rows hmk
  obtain ⟨hmatch, hrule⟩ := hrow w
  obtain ⟨k, hget⟩ := List.mem_iff_getElem?.mp hr
  have hk : k < 24 := (List.getElem?_eq_some_iff.mp hget).1
  obtain ⟨hlow, -⟩ := (reservedBitsRows_matchesWord_iff w ⟨k, hk⟩ r hget).mp (hmatch ▸ hwf)
  have hbit8 : 2 ^ 8 ≤ w.toNat := (Nat.pow_le_pow_right (by decide) (by omega : 8 ≤ 31 - k)).trans hlow
  refine ⟨fun hrsvd => ?_, hrule⟩
  rw [rsvdField_eq_zero_iff] at hrsvd
  omega

/-! ### The row of a word -/

/-- The word of a command has RSVD = 0 and an opcode below 0x0A (30_encoding.md R91). -/
theorem command_word : ∀ i ∈ [Instr.nop, .keyExpand, .encBlock, .decBlock, .igeEncStart, .igeDecStart, .igeStep,
    .igeAbort, .factorize, .zeroize], rsvdField (encode i) = 0 ∧ (opcodeField (encode i)).toNat < 0x0A := by
  decide

/-- The decoder finds a command or the constructor of an illegal row. -/
theorem decode_row_cases (w : Word) :
    (rsvdField w = 0 ∧ (opcodeField w).toNat < 0x0A) ∨ (∃ mk ∈ unknownOpcodeCtors, decode w = mk w) ∨
    (∃ mk ∈ reservedBitsCtors, decode w = mk w) := by
  obtain ⟨mk, hmk, hdecode⟩ := Option.map_eq_some_iff.mp (rowInstrs_encode (decode w))
  rw [encode_decode] at hdecode
  have hrow := List.mem_of_getElem? hmk
  rw [rowInstrs, List.mem_append, List.mem_append, List.mem_map] at hrow
  obtain (⟨i, hi, rfl⟩ | hunknown) | hreserved := hrow
  · have hword : encode i = w := by rw [show i = decode w from hdecode, encode_decode]
    exact .inl (hword ▸ command_word i hi)
  · exact .inr (.inl ⟨mk, hunknown, hdecode.symm⟩)
  · exact .inr (.inr ⟨mk, hreserved, hdecode.symm⟩)

theorem decode_of_rsvdField_ne_zero {w : Word} (h : rsvdField w ≠ 0) : ∃ mk ∈ reservedBitsCtors, decode w = mk w := by
  obtain ⟨hrsvd, -⟩ | ⟨mk, hmk, hdecode⟩ | hreserved := decode_row_cases w
  · exact absurd hrsvd h
  · exact absurd (unknownOpcode_word hmk (hdecode ▸ decode_wellFormed w)).1 h
  · exact hreserved

theorem decode_of_unknown_opcode {w : Word} (hrsvd : rsvdField w = 0) (hopcode : 0x0A ≤ (opcodeField w).toNat) :
    ∃ mk ∈ unknownOpcodeCtors, decode w = mk w := by
  obtain ⟨-, hlt⟩ | hunknown | ⟨mk, hmk, hdecode⟩ := decode_row_cases w
  · exact absurd hopcode (not_le.mpr hlt)
  · exact hunknown
  · exact absurd hrsvd (reservedBits_word hmk (hdecode ▸ decode_wellFormed w)).1

/-! ### The completion of an illegal word -/

theorem exec_of_unknownOpcode {mk : Word → Instr} (hmk : mk ∈ unknownOpcodeCtors) {w : Word} {S : Snapshot} {s : State}
    (hwf : (mk w).wellFormed = true) (hin : InFlightIs (mk w) S s) : exec (mk w) s = .next (completedWith 6 1 s) := by
  obtain ⟨hrsvd, -, hrule⟩ := unknownOpcode_word hmk hwf
  exact exec_of_raises (e := .unknownOpcode) hin (by simp [hrule, illegalRule, illegalError, hrsvd])

theorem exec_of_reservedBits {mk : Word → Instr} (hmk : mk ∈ reservedBitsCtors) {w : Word} {S : Snapshot} {s : State}
    (hwf : (mk w).wellFormed = true) (hin : InFlightIs (mk w) S s) : exec (mk w) s = .next (completedWith 6 2 s) := by
  obtain ⟨hrsvd, hrule⟩ := reservedBits_word hmk hwf
  exact exec_of_raises (e := .reservedBits) hin (by rw [hrule, illegalRule, illegalError, if_pos hrsvd])

/-- Settles O5: the fields of a word fix its row, and the row fixes the error its rule raises. -/
theorem illegalCommandsExecute : Obligations.IllegalCommandsExecute := by
  refine ⟨fun _ => decode_of_rsvdField_ne_zero, fun _ => decode_of_unknown_opcode, fun w s hidle => ?_,
    fun _ hmk _ _ _ => exec_of_unknownOpcode hmk, fun _ hmk _ _ _ => exec_of_reservedBits hmk⟩
  rw [writeCmd_of_idle hidle]
  exact ⟨acceptCommand_busy s w, acceptCommand_lastOp s w, acceptCommand_inflight s w⟩

/-! ### NOP and ZEROIZE -/

/-- Settles O34: the rule of NOP completes with the state as it is; 0x00000100 is of the row of reserved bit 8. -/
theorem nopExecutes : Obligations.NopExecutes := by
  refine ⟨decodeOfEncodeIsIdentity .nop rfl, ⟨decodeOfEncodeIsIdentity (.illegalRsvdBit8 0x00000100#32) rfl, ?_⟩, ?_, ?_⟩
  · exact fun _ _ hin => exec_of_reservedBits (by simp [reservedBitsCtors]) rfl hin
  · intro s hidle
    rw [writeCmd_of_idle hidle]
    exact ⟨acceptCommand_done s _, acceptCommand_err s _, acceptCommand_errCode s _, acceptCommand_subCause s _,
      acceptCommand_lastOp s _⟩
  · exact fun _ _ hin => exec_of_completes hin rfl

/-- Settles O35: the rule of ZEROIZE completes with `clearAll`, in every state and whatever the snapshot. -/
theorem zeroizeExecutes : Obligations.ZeroizeExecutes :=
  ⟨decodeOfEncodeIsIdentity .zeroize rfl, fun _ s hin => exec_of_completes hin (u := clearAll s) rfl⟩

end Sys2Proof.Proofs
end

section
/-! PROOFS. Error completions (O10), the idle engine (O17) and the interrupt line (O28) (60_exceptions.md R250, R258,
R269). -/

namespace Sys2Proof.Proofs

open Sys2Proof.Machine Sys2Proof.Safety

/-! ### Where an error is raised -/

/-- The checks come before every write (60_exceptions.md R250): the rule completes, or raises at the state it was given. -/
def RaisesUnchanged (s : State) (r : ExecResult) : Prop := (∃ u, r = .completes u) ∨ ∃ e, r = .raises e s

theorem raisesUnchanged_keyExpandRule (S : Snapshot) (s : State) : RaisesUnchanged s (keyExpandRule S s) := by
  obtain ⟨-, h⟩ | ⟨-, -, h⟩ | ⟨-, -, h⟩ := keyExpandRule_cases S s
  · exact .inr ⟨_, h⟩
  · exact .inr ⟨_, h⟩
  · exact .inl ⟨_, h⟩

theorem raisesUnchanged_blockRule (f : Schedule → Block → Block) (S : Snapshot) (s : State) :
    RaisesUnchanged s (blockRule f S s) := by
  obtain ⟨-, h⟩ | ⟨-, -, h⟩ | ⟨-, -, h⟩ := blockRule_cases f S s
  · exact .inr ⟨_, h⟩
  · exact .inr ⟨_, h⟩
  · exact .inl ⟨_, h⟩

theorem raisesUnchanged_igeStartRule (dir : Bool) (S : Snapshot) (s : State) :
    RaisesUnchanged s (igeStartRule dir S s) := by
  obtain h | ⟨-, -, -, -, -, h⟩ := igeStartRule_cases dir S s
  · exact .inr h
  · exact .inl ⟨_, h⟩

theorem raisesUnchanged_igeStepRule (S : Snapshot) (s : State) : RaisesUnchanged s (igeStepRule S s) := by
  obtain ⟨-, h⟩ | ⟨-, h⟩ := igeStepRule_cases S s
  · exact .inr ⟨_, h⟩
  · exact .inl ⟨_, h⟩

/-- FACTORIZE is the one command that writes registers before it fails. -/
theorem raisesUnchanged_ruleOf {i : Instr} (hi : i ≠ .factorize) (S : Snapshot) (s : State) :
    RaisesUnchanged s (ruleOf i S s) := by
  cases i with
  | keyExpand => exact raisesUnchanged_keyExpandRule S s
  | encBlock => exact raisesUnchanged_blockRule cipher S s
  | decBlock => exact raisesUnchanged_blockRule invCipher S s
  | igeEncStart => exact raisesUnchanged_igeStartRule false S s
  | igeDecStart => exact raisesUnchanged_igeStartRule true S s
  | igeStep => exact raisesUnchanged_igeStepRule S s
  | factorize => exact absurd rfl hi
  | nop | igeAbort | zeroize => exact .inl ⟨_, rfl⟩
  | _ => exact .inr ⟨_, rfl⟩

theorem eq_of_ruleOf_raises {i : Instr} (hi : i ≠ .factorize) {S : Snapshot} {s u : State} {e : CmdError}
    (h : ruleOf i S s = .raises e u) : u = s := by
  obtain ⟨_, hc⟩ | ⟨_, hr⟩ := raisesUnchanged_ruleOf hi S s
  · cases h.symm.trans hc
  · cases h.symm.trans hr
    rfl

/-- A failed FACTORIZE publishes 0 and 0 and its work (43_factorization.md R215). -/
theorem factRegisters_of_factorize_raises {S : Snapshot} {s u : State} {e : CmdError}
    (h : ruleOf .factorize S s = .raises e u) :
    ∃ steps c, u = { s with factP := 0, factQ := 0, factSteps := steps, factC := c } := by
  obtain ⟨_, _, -, hc⟩ | ⟨_, -, hr⟩ := publishFactors_cases (factorizeWith tgcFactParams S.n.toNat) s
  · cases h.symm.trans hc
  · cases h.symm.trans hr
    exact ⟨_, _, rfl⟩

/-! ### The completion of an error -/

/-- No rule writes ERR, so a completion that sets it is that of a raised error. -/
theorem exists_raises_of_err {i : Instr} {s : State} {r : ExecResult} (heff : RuleEffect i s (endState r))
    (hs : s.err = false) (herr : (finish r).err = true) : ∃ e u, r = .raises e u := by
  cases r with
  | raises e u => exact ⟨e, u, rfl⟩
  | completes u =>
    obtain ⟨hkeep, -⟩ := errorRecord_of_ruleEffect heff
    exact absurd (herr.symm.trans (hkeep.trans hs)) nofun

/-- Settles O10: the error is raised at the state itself, or for FACTORIZE at its published zeros, and the completion adds
its record alone. -/
theorem errorCompletionsArePrecise : Obligations.ErrorCompletionsArePrecise := by
  intro i S s t hin hs hexec herr
  obtain rfl : finish (ruleOf i S s) = t := by injection (exec_of_inFlightIs hin).symm.trans hexec
  obtain ⟨e, u, hrule⟩ := exists_raises_of_err (ruleEffect_ruleOf i S s) hs herr
  rw [hrule]
  refine ⟨fun hi => ?_, fun hi => ?_, fun v => ?_⟩
  · obtain rfl := eq_of_ruleOf_raises hi hrule
    rfl
  · subst hi
    obtain ⟨steps, c, rfl⟩ := factRegisters_of_factorize_raises hrule
    rfl
  · rw [hostWrite_cmd, writeCmd_of_idle (finish_busy _)]

/-! ### The idle engine -/

theorem takeTurn_of_schedule_nil {s : State} (h : s.schedule = []) : takeTurn s = s := by
  rw [takeTurn, h, List.tail_nil, ← h]

/-- The turn is the host's, and its program has ended (log entry 3). -/
theorem step_of_idle {s : State} (hb : s.busy = false) (hprog : s.program = []) (hsched : s.schedule = []) :
    step s = .next s := by
  have hturn : turnOf s = .host := by simp [turnOf, hsched, hb]
  have hnothing : hostTurn s = s := by simp [hostTurn, hprog]
  rw [step, hturn, takeTurn_of_schedule_nil hsched, hnothing]

/-- Settles O17, by induction on the number of steps. -/
theorem idleEngineHoldsItsState : Obligations.IdleEngineHoldsItsState := by
  intro s n hb hprog hsched
  induction n with
  | zero => rfl
  | succ n ih => rw [runSteps_succ (step_of_idle hb hprog hsched), ih]

/-! ### The interrupt line -/

theorem irqLineWith_eq_true_iff (present : Bool) (s : State) : irqLineWith present s = true ↔
    present = true ∧ s.irqEn = true ∧ (s.doneP = true ∨ s.errP = true ∨ s.ovrP = true) := by
  rw [irqLineWith, Bool.and_eq_true, Bool.and_eq_true, Bool.or_eq_true, Bool.or_eq_true, or_assoc]

/-- Settles O28: TGC-CORE has its line connected. -/
theorem interruptLineIsALevel : Obligations.InterruptLineIsALevel := fun s =>
  ⟨(irqLineWith_eq_true_iff irqPresent s).trans (and_iff_right rfl), Bool.false_and _⟩

end Sys2Proof.Proofs
end

section
/-! PROOFS. Reset, soft and power-on: what it sets and keeps (O31), and a reset while a command is in flight (O32)
(70_reset_and_hazards.md R280 to R282). -/

namespace Sys2Proof.Proofs

open Sys2Proof.Machine

/-! ### The two resets -/

/-- A soft reset is a CTRL write with SRST = 1, whatever BUSY is (10_state.md R26). -/
theorem hostWrite_ctrl_of_srst {v : Word} (hsrst : v.getLsbD 1 = true) (s : State) :
    hostWrite 0x004 4 v s = engineReset s := by
  obtain ⟨-, hctrl⟩ := ctrlWritesResetOrSetIrqEn
  obtain ⟨hreset, -⟩ := hctrl v s
  obtain ⟨hwrite, -⟩ := hreset hsrst
  exact hwrite

theorem step_of_powerOnReset {s : State} {turns : List Turn} (hsched : s.schedule = .powerOnReset :: turns) :
    step s = .next (engineReset { s with schedule := turns }) := by
  rw [step, show turnOf s = .powerOnReset by rw [turnOf, hsched], takeTurn, hsched, List.tail_cons]

/-- Both kinds of reset step end in a reset state of the engine (70_reset_and_hazards.md R280). -/
theorem exists_engineReset_of_reset {s t : State}
    (h : (∃ v : Word, v.getLsbD 1 = true ∧ t = hostWrite 0x004 4 v s) ∨
      ∃ turns, s.schedule = .powerOnReset :: turns ∧ step s = .next t) : ∃ u, t = engineReset u := by
  obtain ⟨v, hsrst, rfl⟩ | ⟨turns, hsched, hstep⟩ := h
  · exact ⟨s, hostWrite_ctrl_of_srst hsrst s⟩
  · obtain rfl : engineReset { s with schedule := turns } = t := by
      injection (step_of_powerOnReset hsched).symm.trans hstep
    exact ⟨_, rfl⟩

/-! ### What the host sees after a reset -/

@[simp] theorem irqLine_engineReset (s : State) : irqLine (engineReset s) = false := by
  simp [irqLine, irqLineWith]

@[simp] theorem statusWord_engineReset (s : State) : statusWord (engineReset s) = 0 := by
  simp [statusWord]

theorem hostRead_status_engineReset (s : State) : hostRead 0x00C 4 (engineReset s) = .data 0 := by
  rw [show hostRead 0x00C 4 (engineReset s) = .data (statusWord (engineReset s)) from hostRead_regOffset .status _,
    statusWord_engineReset]

/-- Settles O31: the fields are those of the reset state, and BUSY = 0 among them lets the next command in. -/
theorem resetClearsEveryField : Obligations.ResetClearsEveryField := by
  intro s
  refine ⟨rfl, fun turns => step_of_powerOnReset, fun v hsrst => ?_, irqLine_engineReset s, fun v => ?_⟩
  · exact ⟨hostWrite_ctrl_of_srst hsrst s, hostWriteResponse_regOffset .ctrl⟩
  · rw [hostWrite_cmd, writeCmd_of_idle (engineReset_busy s)]

/-- Settles O32: the state after either reset is a reset state, and its engine fields depend neither on
BUSY nor on the command that was in flight. -/
theorem resetWhileBusyAbandonsTheCommand : Obligations.ResetWhileBusyAbandonsTheCommand := by
  intro s t _ hreset
  obtain ⟨u, rfl⟩ := exists_engineReset_of_reset hreset
  simp [hostRead_status_engineReset]

end Sys2Proof.Proofs
end
